-- ==== Sys2Proof/Word.lean ====
section
/-! DEFINITION. The word types of the FS172: what the manual adds, shifts or wraps as bits. -/

namespace Sys2Proof

/-- A byte on a chain, a link, the floor line or the host port. -/
abbrev Byte := BitVec 8

/-- A traveller count: 16 bits, wrapping (R1). -/
abbrev W16 := BitVec 16

/-- A pulse counter: 32 bits, wrapping (R2). -/
abbrev W32 := BitVec 32

/-- The limit of a 32-bit saturating figure. -/
abbrev max32 : Nat := 4294967295

/-- The limit of a 48-bit figure. -/
abbrev max48 : Nat := 281474976710655

/-- The limit of a 64-bit saturating figure. -/
abbrev max64 : Nat := 18446744073709551615

end Sys2Proof
end

