-- ==== Sys2Proof/Syntax.lean ====
section
/-! DEFINITION. The commands of the FS172: one constructor for each row of spec/opcode_table.json. -/

namespace Sys2Proof

/-- The two sides of a frame (00_scope.md, 3.1). -/
inductive Side where
  | L | R
  deriving DecidableEq, Repr

/-- The three items of a peer entry that have a stale timer of their own (R129, R131). -/
inductive StaleItem where
  | doffClaim | trainClaim | trainTake
  deriving DecidableEq, Repr

/-- The commands. A host request carries the bytes that follow its request code on the port: two
bytes of payload length, then the payload (R177); so a malformed request is a command too (R178). -/
inductive Instr where
  /-- COLD_RESET (R186): RESET_N low and its rise, or power-on. -/
  | coldReset
  /-- CONFIGURE (R180 to R182). -/
  | configure (body : List Byte)
  /-- RESTART (R186). -/
  | restart (body : List Byte)
  /-- RESTART_COMPLETE (R186). -/
  | restartComplete
  /-- READ_STATUS (R184). -/
  | readStatus (body : List Byte)
  /-- READ_DELTA (R55). -/
  | readDelta (body : List Byte)
  /-- READ_SHIFT (R174). -/
  | readShift (body : List Byte)
  /-- READ_TALLY (R174). -/
  | readTally (body : List Byte)
  /-- COPY_SPINDLES (R185). -/
  | copySpindles (body : List Byte)
  /-- COPY_NEXT (R185). -/
  | copyNext (body : List Byte)
  /-- FIND (R40, R41). -/
  | find (body : List Byte)
  /-- READ_BREAKS (R72). -/
  | readBreaks (body : List Byte)
  /-- READ_CARRIAGE (R97). -/
  | readCarriage (body : List Byte)
  /-- CLEAR_OUTCOMES (R97). -/
  | clearOutcomes (body : List Byte)
  /-- CARRIAGE_CONNECT (R85). -/
  | carriageConnect (body : List Byte)
  /-- CARRIAGE_RELEASE (R86). -/
  | carriageRelease (body : List Byte)
  /-- READ_CREEL (R110). -/
  | readCreel (body : List Byte)
  /-- CREEL_DONE as a host request (R109). -/
  | creelDone (body : List Byte)
  /-- TENTER_CLEAR (R36). -/
  | tenterClear (body : List Byte)
  /-- FORCE_DOFF (R161). -/
  | forceDoff (body : List Byte)
  /-- READ_PEERS (R132). -/
  | readPeers (body : List Byte)
  /-- READ_ATTENTION (R189). -/
  | readAttention (body : List Byte)
  /-- ACK_ATTENTION (R189). -/
  | ackAttention (body : List Byte)
  /-- SET_ATTENTION_ENABLE (R189). -/
  | setAttentionEnable (body : List Byte)
  /-- PROBE_START (R18). -/
  | probeStart (body : List Byte)
  /-- READ_PROBE (R20). -/
  | readProbe (body : List Byte)
  /-- UNKNOWN_REQUEST (R178): a write whose code is not in the request table, or that has no code;
  its bytes from the code on. -/
  | unknownRequest (bytes : List Byte)
  /-- HOST_READ_TRANSACTION (R177): the number of answer bytes clocked out before CS_N rises. -/
  | hostReadTransaction (clocked : Nat)
  /-- BAD_TRANSACTION (R177): the transaction byte. -/
  | badTransaction (first : Byte)
  /-- IGNORED_WRITE (R178): a write received while a RESTART is being served; its bytes. -/
  | ignoredWrite (bytes : List Byte)
  /-- TIN_PULSE_EDGE (R2). -/
  | tinPulseEdge
  /-- FR_PULSE_EDGE (R2). -/
  | frPulseEdge
  /-- SECTION_READ_ANSWER (R1, R5): the bytes of a node's answer on one chain. -/
  | sectionReadAnswer (side : Side) (bytes : List Byte)
  /-- READ_ANSWER_TIMEOUT (R4). -/
  | readAnswerTimeout (side : Side)
  /-- PASS_TIMER_EXPIRY (R8). -/
  | passTimerExpiry (side : Side)
  /-- IDLE_TIMER_EXPIRY (R10). -/
  | idleTimerExpiry
  /-- DRIVE_RUN_RISE (R10, R11, R68). -/
  | driveRunRise
  /-- DRIVE_RUN_FALL (R10). -/
  | driveRunFall
  /-- WAKE_STAMP_REACHED (R68). -/
  | wakeStampReached (side : Side)
  /-- EXCHANGE_TIMER_EXPIRY (R75). -/
  | exchangeTimerExpiry (side : Side)
  /-- CARRIAGE_ANSWER (R75, R78): the bytes of a carriage's answer. -/
  | carriageAnswer (side : Side) (bytes : List Byte)
  /-- CARRIAGE_ANSWER_TIMEOUT (R75). -/
  | carriageAnswerTimeout (side : Side)
  /-- SILENCE_TIMER_EXPIRY (R81). -/
  | silenceTimerExpiry (side : Side)
  /-- JOB_TIMER_EXPIRY (R91). -/
  | jobTimerExpiry (side : Side)
  /-- FLOOR_FRAME_RECEIVED (R116): the frame's bytes, and whether each had its stop bit. -/
  | floorFrameReceived (bytes : List Byte) (stopBitsOk : Bool)
  /-- SILENT_TIMER_EXPIRY (R126). -/
  | silentTimerExpiry
  /-- JOIN_TIMER_EXPIRY (R125). -/
  | joinTimerExpiry
  /-- BEACON_TIMER_EXPIRY (R127). -/
  | beaconTimerExpiry
  /-- TRANSMIT_ATTEMPT_START (R121). -/
  | transmitAttemptStart
  /-- COLLISION (R122). -/
  | collision
  /-- CLEAN_SEND (R122). -/
  | cleanSend
  /-- PEER_TIMER_EXPIRY (R131): the peer's id. -/
  | peerTimerExpiry (peer : Nat)
  /-- STALE_TIMER_EXPIRY (R131): the peer's id and the item. -/
  | staleTimerExpiry (peer : Nat) (item : StaleItem)
  /-- DOFF_WINDOW_EXPIRY (R139). -/
  | doffWindowExpiry
  /-- TRAIN_WINDOW_EXPIRY (R142). -/
  | trainWindowExpiry
  /-- HOLD_OFF_EXPIRY (R140). -/
  | holdOffExpiry
  /-- TRAIN_WAIT_EXPIRY (R105): the frame group index. -/
  | trainWaitExpiry (group : Nat)
  /-- CREEL_MAX_EXPIRY (R107): the frame group index. -/
  | creelMaxExpiry (group : Nat)
  /-- DOFF_DONE_RISE (R158). -/
  | doffDoneRise
  /-- DOFF_TIMER_EXPIRY (R157). -/
  | doffTimerExpiry
  /-- RESTART_LIMIT_EXPIRY (R159). -/
  | restartLimitExpiry
  /-- SHIFT_END_REACHED (R167). -/
  | shiftEndReached
  /-- REPORT_TIMER_EXPIRY (R171): the shift number of the closed-shift record. -/
  | reportTimerExpiry (shift : Nat)
  /-- BACKOFF_COUNTDOWN_STOPPED (R121): the slots counted down since the countdown last ran. -/
  | backoffCountdownStopped (counted : Nat)
  deriving DecidableEq, Repr

end Sys2Proof
end

