-- ==== Sys2Proof/Config.lean ====
section
/-! DEFINITION. The configuration fields of R180, the limits the manual fixes, and the free values. -/

namespace Sys2Proof.Config

/-! The manual's fixed sizes and times. -/

/-- Spindles of a section (00_scope.md, 3.2). -/
abbrev sectionSize : Nat := 24
/-- Capacity of a break list (R60). -/
abbrev listMax : Nat := 64
/-- Capacity of the transmit queue (R120). -/
abbrev queueMax : Nat := 16
/-- Capacity of the peer table (R129). -/
abbrev peersMax : Nat := 48
/-- Capacity of a bay tally (R173). -/
abbrev tallyMax : Nat := 48
/-- Closed-shift records kept (R170). -/
abbrev recordsMax : Nat := 4
/-- Attempts of one message (R122). -/
abbrev attemptsMax : Nat := 16
/-- The read answer timeout, ms (R1). -/
abbrev readTimeoutMs : Nat := 5
/-- The exchange period, ms (R75). -/
abbrev exchangeMs : Nat := 100
/-- The carriage answer timeout, ms (R75). -/
abbrev carriageTimeoutMs : Nat := 20
/-- The silence timer, ms (R81). -/
abbrev silenceMs : Nat := 1000
/-- The peer timer, ms (R129). -/
abbrev peerMs : Nat := 30000
/-- The stale timer, ms (R129). -/
abbrev staleMs : Nat := 10000
/-- The SILENT timer, ms (R126). -/
abbrev silentMs : Nat := 30000
/-- The doff timer, ms (R156). -/
abbrev doffMs : Nat := 900000
/-- The restart limit timer, ms (R159). -/
abbrev restartLimitMs : Nat := 600000

/-- The accepted configuration: the fields of R180 in the table's order, after R182. -/
structure Cfg where
  stationId : Nat
  bayMask : Nat
  sideSpindles : Nat
  carriages : Nat
  tinPpr : Nat
  spindleRatio : Nat
  lag : Nat
  refMin : Nat
  breakLevel : Nat
  slackLevel : Nat
  breakConfirm : Nat
  slackConfirm : Nat
  restorePasses : Nat
  qualMin : Nat
  qualPasses : Nat
  passMs : Nat
  idleDownS : Nat
  dormantDownS : Nat
  frUm : Nat
  texX10 : Nat
  draftX10 : Nat
  doffTargetM : Nat
  doffLeadM : Nat
  doffOverrunM : Nat
  doffLimit : Nat
  claimWindowMs : Nat
  pieceTries : Nat
  retryGapS : Nat
  starveS : Nat
  verifyPasses : Nat
  pieceMaxS : Nat
  rovingLenM : Nat
  rovingLowM : Nat
  outQuorum : Nat
  creelMaxS : Nat
  trainWaitS : Nat
  shiftMin : Nat
  statusMs : Nat
  attnMode : Nat
  attnEnable : Nat
  deriving DecidableEq, Repr

/-- The defaults of R180; the two fields without a default stand at 0 and 0, which R181 refuses. -/
def defaults : Cfg where
  stationId := 0
  bayMask := 0
  sideSpindles := 0
  carriages := 3
  tinPpr := 64
  spindleRatio := 8750
  lag := 12
  refMin := 64
  breakLevel := 150
  slackLevel := 940
  breakConfirm := 2
  slackConfirm := 4
  restorePasses := 2
  qualMin := 16
  qualPasses := 8
  passMs := 1000
  idleDownS := 30
  dormantDownS := 600
  frUm := 785
  texX10 := 74
  draftX10 := 400
  doffTargetM := 3600
  doffLeadM := 200
  doffOverrunM := 300
  doffLimit := 2
  claimWindowMs := 600
  pieceTries := 3
  retryGapS := 60
  starveS := 300
  verifyPasses := 3
  pieceMaxS := 45
  rovingLenM := 1500
  rovingLowM := 60
  outQuorum := 3
  creelMaxS := 1200
  trainWaitS := 600
  shiftMin := 480
  statusMs := 2000
  attnMode := 0
  attnEnable := 511

/-! The free values: what the manual leaves open. Each is applied to the next index of State.free. -/

/-- R121: the draw of the backoff count; its use is taken modulo W, so every k from 0 to W - 1 is
possible and no proof can see which (DESIGN CHOICE, notes/assumptions/7.md). -/
opaque backoffDraw : Nat → Nat

/-- R162: whether DOFF_DONE, high since its last rising edge, is still high when READ_STATUS looks;
the table has no row for its fall (DESIGN CHOICE, notes/assumptions/6.md). -/
opaque doffDoneStillHigh : Nat → Bool

/-- 00_scope.md 6.6: the payload length of an answer that the manual gives no byte layout; its use
is taken modulo 4097, since R177 bounds it by 4096 (DESIGN CHOICE, notes/assumptions/8.md). -/
opaque answerLength : Nat → Nat

/-- 00_scope.md 6.6: a payload byte, at a place, of an answer that the manual gives no byte layout
(DESIGN CHOICE, notes/assumptions/8.md). -/
opaque answerByte : Nat → Nat → Byte

/-- R177: the code echoed by the answer to a write that carried no code byte
(DESIGN CHOICE, notes/assumptions/9.md). -/
opaque missingCodeEcho : Nat → Byte

end Sys2Proof.Config
end

