-- ==== Sys2Proof/Machine/State.lean ====
section
/-! DEFINITION. The state of the FS172 as plain data: one structure for each block of 00_scope.md,
section 2, and the machine right after reset. -/

namespace Sys2Proof.Machine

open Sys2Proof.Config

/-- No command of the FS172 stops the station: "the station goes on working" (00_scope.md, 6.8).
There is no fault, so nobody raises one. -/
inductive Fault where
  deriving DecidableEq, Repr

/-- Why a command has no meaning. -/
inductive Refusal where
  /-- Raised by an arm of exec whose command has no meaning yet; safe: the machine stops. No arm of
  this model raises it. -/
  | notModelled (mnemonic : String)
  deriving DecidableEq, Repr

/-- A pair of like things, one for each side of the frame. -/
structure Sides (α : Type) where
  l : α
  r : α
  deriving DecidableEq, Repr

/-- The thing of one side. -/
def Sides.get {α : Type} (x : Sides α) : Side → α
  | .L => x.l
  | .R => x.r

/-- Replace the thing of one side. -/
def Sides.set {α : Type} (x : Sides α) : Side → α → Sides α
  | .L, a => { x with l := a }
  | .R, a => { x with r := a }

/-! ### Sensor Scanner -/

/-- The scan tier (R9). -/
inductive Tier where
  | run | slow | dormant
  deriving DecidableEq, Repr

/-- A section record (R3). The two snapshots, tin then front roller, are absent or present
together. -/
structure Section where
  snapshots : Option (W32 × W32)
  base : Option (List W16)
  step : Nat
  miss : Nat
  lost : Bool
  deriving DecidableEq, Repr

/-- A side pass in progress (R7): the section being read, whether one of its reads was referenced,
and whether it started after the restart evaluation began (R159). -/
structure Pass where
  section_ : Nat
  referenced : Bool
  afterDoff : Bool
  deriving DecidableEq, Repr

/-- A READ in flight (R1): the section asked, the step sent, and the bytes that went out on the chain. -/
structure ReadInFlight where
  section_ : Nat
  step : Nat
  sent : List Byte
  deriving DecidableEq, Repr

/-- One sensor chain: its section records, its pass, its read and their timers (R1, R3, R7, R8). -/
structure Chain where
  sections : List Section
  pass : Option Pass
  read : Option ReadInFlight
  readTimer : Option Nat
  passTimer : Option Nat
  owed : Bool
  passes : Nat
  latePasses : Nat
  deriving DecidableEq, Repr

/-- The probe capture's fields (R18); q is absent for the mark "no reference". -/
structure Capture where
  spindle : Nat
  c : Nat
  quality : Nat
  t : Nat
  f : Option Nat
  pExp : Nat
  q : Option Nat
  deriving DecidableEq, Repr

/-- The scanner's frame-wide counts (R21). -/
structure SscCounts where
  unanswered : Nat
  garbled : Nat
  nodeRestarts : Nat
  longIntervals : Nat
  lostEntries : Nat
  deriving DecidableEq, Repr

/-- The Sensor Scanner. -/
structure Ssc where
  tin : W32
  fr : W32
  tier : Tier
  idleTimer : Option Nat
  chains : Sides Chain
  counts : SscCounts
  probeIndex : Option Nat
  capture : Option Capture
  deriving DecidableEq, Repr

/-! ### Spindle Table -/

/-- The ten states of a spindle (R25). -/
inductive SpindleState where
  | unknown | running | slack | broken | servicing | verifying | blocked | rovingOut | doffWait
  | sensorFault
  deriving DecidableEq, Repr

/-- A spindle record (R24); its number follows from its side and place. -/
structure Spindle where
  state : SpindleState
  listed : Bool
  breakCount : Nat
  slackCount : Nat
  goodCount : Nat
  lowRun : Nat
  goodRun : Nat
  attempts : Nat
  verify : Nat
  ratio : Option Nat
  traveller : W16
  cop : Nat
  deriving DecidableEq, Repr

/-- The Spindle Table: the records of each side in position order, and the sensor-fault count
(R42). The census is computed from the records. -/
structure Spt where
  spindles : Sides (List Spindle)
  sensorFaults : Nat
  deriving DecidableEq, Repr

/-! ### Production Counter -/

/-- A delivery record (R44). -/
structure Delivery where
  cycle : Nat
  remainder : Nat
  deriving DecidableEq, Repr

/-- A length kept as whole metres with a millimetre remainder (R48). -/
structure Length where
  m : Nat
  mm : Nat
  deriving DecidableEq, Repr

/-- The accumulators of the current shift (R52). -/
structure Accum where
  good : Length
  slack : Length
  unobserved : Length
  breaks : Nat
  carriagePieced : Nat
  tenterPieced : Nat
  countedFailures : Nat
  falseSuccesses : Nat
  blocked : Nat
  restartEndDowns : Nat
  doffs : Nat
  copsDoffed : Nat
  shortCops : Nat
  copSum : Length
  creelChanges : Nat
  running : Nat
  possible : Nat
  shiftStart : Nat
  deriving DecidableEq, Repr

/-- The production delta (R55). -/
structure Delta where
  goodMm : Nat
  slackMm : Nat
  breaks : Nat
  pieced : Nat
  fresh : Bool
  deriving DecidableEq, Repr

/-- The Production Counter. -/
structure Pcn where
  deliveries : Sides (List Delivery)
  acc : Accum
  delta : Delta
  deriving DecidableEq, Repr

/-! ### Break Dispatcher -/

/-- An entry of a break list (R60). -/
structure BreakEntry where
  position : Nat
  arrival : Nat
  notBefore : Option Nat
  deriving DecidableEq, Repr

/-- The counts of R73. -/
structure BdpCounts where
  overflows : Nat
  refillListings : Nat
  dispatches : Nat
  starved : Nat
  reversals : Nat
  deriving DecidableEq, Repr

/-- One side of the Break Dispatcher: its list, wake stamp, full-reported mark and counts. -/
structure Breaks where
  entries : List BreakEntry
  wake : Option Nat
  fullReported : Bool
  counts : BdpCounts
  deriving DecidableEq, Repr

/-! ### Carriage Link Controllers -/

/-- The direction of a carriage (R79), and of a search (R40). -/
inductive Dir where
  | up | down
  deriving DecidableEq, Repr

/-- The eight states of a carriage context (R80). -/
inductive CarState where
  | disconnected | connecting | ready | dispatched | parking | parked | suspect | lost
  deriving DecidableEq, Repr

/-- The orders of R75 and R76. -/
inductive OrderKind where
  | connect
  | release
  | goPiece (position attempt : Nat)
  | abandon
  | park
  | resume
  deriving DecidableEq, Repr

/-- An issued order with its number (R77). -/
structure Order where
  kind : OrderKind
  number : Byte
  deriving DecidableEq, Repr

/-- The last seen status of a job, when it is not "none" (R79). -/
inductive Seen where
  | moving | piecing
  deriving DecidableEq, Repr

/-- A job (R79, R87). -/
structure Job where
  spindle : Nat
  position : Nat
  attempt : Nat
  stamp : Nat
  seen : Option Seen
  deriving DecidableEq, Repr

/-- A resume record (R79, R93). -/
structure ResumeRecord where
  spindle : Nat
  position : Nat
  attempt : Nat
  direction : Dir
  deriving DecidableEq, Repr

/-- The nine outcome kinds (R89). -/
inductive Outcome where
  | pieced | noEnd | twistFail | spindleStopped | timeout | noRoving | obstructed | aborted | fault
  deriving DecidableEq, Repr

/-- What became of the last outcome (R88). -/
inductive Disposition where
  | reported | recorded
  deriving DecidableEq, Repr

/-- The last outcome (R79, R88). -/
structure LastOutcome where
  kind : Outcome
  position : Nat
  stamp : Nat
  disposition : Disposition
  deriving DecidableEq, Repr

/-- The counts of R97. -/
structure CarCounts where
  jobs : Nat
  resumptions : Nat
  pieced : Nat
  failed : Nat
  timeouts : Nat
  dropped : Nat
  stray : Nat
  faults : Nat
  lost : Nat
  exchanges : Nat
  unanswered : Nat
  deriving DecidableEq, Repr

/-- A carriage context (R79) with its timers and the exchange in progress (R75). -/
structure Carriage where
  state : CarState
  held : Option CarState
  position : Nat
  direction : Dir
  job : Option Job
  record : Option ResumeRecord
  doffDemand : Bool
  tierDemand : Bool
  outstanding : Option Order
  lastOrder : Byte
  lastReport : Option Byte
  stage : Nat
  outcomes : List Outcome
  lastOutcome : Option LastOutcome
  lastFault : Option Byte
  resumeTaken : Bool
  exchange : Option (List Byte)
  exchangeTimer : Option Nat
  answerTimer : Option Nat
  silenceTimer : Option Nat
  jobTimer : Option Nat
  counts : CarCounts
  deriving DecidableEq, Repr

/-! ### Creel Monitor -/

/-- The six states of a creel group (R99). -/
inductive GroupState where
  | fed | low | claiming | awaiting | changing | stalled
  deriving DecidableEq, Repr

/-- A group record (R99); its index is its place in the list plus one. -/
structure Group where
  state : GroupState
  remaining : Nat
  carry : Nat
  out : Nat
  train : Option Nat
  timer : Option Nat
  deriving DecidableEq, Repr

/-- The counts of R111. -/
structure CmnCounts where
  offersPassed : Nat
  claimsStarted : Nat
  trainsWon : Nat
  yields : Nat
  abandons : Nat
  waitExpiries : Nat
  dockings : Nat
  unexpected : Nat
  stalls : Nat
  renewals : Nat
  manual : Nat
  deriving DecidableEq, Repr

/-- The Creel Monitor. -/
structure Cmn where
  groups : List Group
  counts : CmnCounts
  deriving DecidableEq, Repr

/-! ### Floor Link Controller -/

/-- The link states (R123). -/
inductive LinkState where
  | off | join | active | cautious | silent | conflict
  deriving DecidableEq, Repr

/-- A message offered for sending (R115): the frame kinds with their payloads. A STATUS is formed at
its attempt (R121). -/
inductive Msg where
  | status
  | doffClaim (urgency : Nat)
  | doffYield
  | doffStart
  | doffEnd
  | trainClaim (train group urgency : Nat)
  | trainYield (train : Nat)
  | trainTake (train group : Nat)
  | shiftClose (shift : Nat)
  | shiftReport (shift good slack mass doffs breaks efficiency : Nat)
  deriving DecidableEq, Repr

/-- The transmit slot (R121): the message, its attempt count, the backoff slots still to count, and
the bytes being sent while an attempt is on the line (FL_DE asserted). -/
structure Slot where
  msg : Msg
  attempts : Nat
  slotsLeft : Nat
  sending : Option (List Byte)
  deriving DecidableEq, Repr

/-- The role of a peer (R129). -/
inductive Role where
  | frame | rail
  deriving DecidableEq, Repr

/-- The doff phase seen of a peer (R129). -/
inductive PhaseSeen where
  | none | claiming | doffing
  deriving DecidableEq, Repr

/-- A peer's open doff claim, with its stale timer. -/
structure PeerDoffClaim where
  urgency : Nat
  left : Nat
  deriving DecidableEq, Repr

/-- A peer's open train claim, with its stale timer. -/
structure PeerTrainClaim where
  train : Nat
  group : Nat
  urgency : Nat
  left : Nat
  deriving DecidableEq, Repr

/-- A peer's train take, with its stale timer. -/
structure PeerTrainTake where
  train : Nat
  group : Nat
  left : Nat
  deriving DecidableEq, Repr

/-- An entry of the peer table (R129). -/
structure Peer where
  id : Nat
  role : Role
  lastHeard : Nat
  lastShift : Nat
  phase : PhaseSeen
  doffClaim : Option PeerDoffClaim
  trainClaim : Option PeerTrainClaim
  trainTake : Option PeerTrainTake
  left : Nat
  deriving DecidableEq, Repr

/-- The counts of R132. -/
structure FlcCounts where
  sent : Nat
  attempts : Nat
  collisions : Nat
  exhausted : Nat
  queueDrops : Nat
  refused : Nat
  cleared : Nat
  badFrames : Nat
  goodFrames : Nat
  foreign : Nat
  outOfBay : Nat
  accepted : Nat
  conflictFrames : Nat
  clockAdjustments : Nat
  tableFull : Nat
  peerExpiries : Nat
  claimExpiries : Nat
  cautiousEntries : Nat
  silentEntries : Nat
  conflictEntries : Nat
  deriving DecidableEq, Repr

/-- The Floor Link Controller. -/
structure Flc where
  link : LinkState
  health : Nat
  width : Nat
  clock : Nat
  queue : List Msg
  slot : Option Slot
  peers : List Peer
  joinTimer : Option Nat
  silentTimer : Option Nat
  beaconTimer : Option Nat
  skip : Bool
  silentFrames : Nat
  counts : FlcCounts
  deriving DecidableEq, Repr

/-! ### Bay Claim Unit -/

/-- The doff slot's claim record (R135). -/
structure DoffRecord where
  urgency : Nat
  left : Nat
  deriving DecidableEq, Repr

/-- The train slot's claim record (R135). -/
structure TrainRecord where
  train : Nat
  group : Nat
  urgency : Nat
  left : Nat
  deriving DecidableEq, Repr

/-- The hold record (R140); the hold-off timer is absent once it has expired. -/
structure HoldRecord where
  urgency : Nat
  holdOff : Option Nat
  deriving DecidableEq, Repr

/-- The counts of R145. -/
structure BcuCounts where
  doffClaims : Nat
  doffWins : Nat
  doffYields : Nat
  doffAbandons : Nat
  slotOpen : Nat
  trainClaims : Nat
  trainWins : Nat
  trainYields : Nat
  trainAbandons : Nat
  withdrawals : Nat
  deriving DecidableEq, Repr

/-- The Bay Claim Unit. -/
structure Bcu where
  doff : Option DoffRecord
  train : Option TrainRecord
  hold : Option HoldRecord
  counts : BcuCounts
  deriving DecidableEq, Repr

/-! ### Doff Sequencer -/

/-- The doff phases (R148). -/
inductive Phase where
  | spinning | prewarn | due | claiming | holding | doffing | restarting
  deriving DecidableEq, Repr

/-- The counts of R162. -/
structure DsqCounts where
  prewarnings : Nat
  dues : Nat
  forced : Nat
  holdings : Nat
  overfulls : Nat
  started : Nat
  longDoffs : Nat
  completed : Nat
  limitRestarts : Nat
  stray : Nat
  deriving DecidableEq, Repr

/-- The Doff Sequencer. -/
structure Dsq where
  phase : Phase
  progress : Nat
  due : Option Nat
  basis : Option (Nat × Nat)
  expected : Option Nat
  overfull : Bool
  doffGo : Bool
  stopReq : Bool
  doffTimer : Option Nat
  limitTimer : Option Nat
  longDoff : Bool
  passCount : Sides Nat
  counts : DsqCounts
  deriving DecidableEq, Repr

/-! ### Shift Tally Unit -/

/-- An entry of a bay tally (R173). -/
structure TallyEntry where
  id : Nat
  mass : Nat
  good : Nat
  deriving DecidableEq, Repr

/-- A bay tally (R173). -/
structure Tally where
  entries : List TallyEntry
  count : Nat
  massSum : Nat
  goodSum : Nat
  deriving DecidableEq, Repr

/-- The figures of a closed shift that are fixed at its close (R170). -/
structure ClosedFigures where
  good : Nat
  slack : Nat
  unobserved : Nat
  mass : Nat
  breaks : Nat
  carriagePieced : Nat
  tenterPieced : Nat
  countedFailures : Nat
  falseSuccesses : Nat
  blocked : Nat
  restartEndDowns : Nat
  doffs : Nat
  copsDoffed : Nat
  shortCops : Nat
  copSum : Nat
  creelChanges : Nat
  efficiency : Nat
  deriving DecidableEq, Repr

/-- A closed-shift record (R170); `offered` is the report mark. -/
structure ClosedRecord where
  shift : Nat
  start : Nat
  stop : Nat
  figures : ClosedFigures
  renumbered : Bool
  offered : Bool
  reportTimer : Option Nat
  tally : Tally
  deriving DecidableEq, Repr

/-- The counts of R175. -/
structure StuCounts where
  byTimer : Nat
  byHeard : Nat
  renumberings : Nat
  adoptions : Nat
  selfNumberings : Nat
  behind : Nat
  closesHeard : Nat
  tallied : Nat
  replaced : Nat
  unmatched : Nat
  outOfBay : Nat
  tallyFull : Nat
  dropped : Nat
  deriving DecidableEq, Repr

/-- The Shift Tally Unit. -/
structure Stu where
  number : Nat
  records : List ClosedRecord
  counts : StuCounts
  deriving DecidableEq, Repr

/-! ### Attention Controller -/

/-- The nine attention classes (R187). -/
inductive AttnClass where
  | breaks | blocked | carriage | creel | doff | shift | link | sensor | frameAlert
  deriving DecidableEq, Repr

/-- What the controller keeps for a class (R187). -/
structure ClassState where
  pending : Bool
  count : Nat
  enabled : Bool
  deriving DecidableEq, Repr

/-- One class state for each class. -/
structure Classes where
  breaks : ClassState
  blocked : ClassState
  carriage : ClassState
  creel : ClassState
  doff : ClassState
  shift : ClassState
  link : ClassState
  sensor : ClassState
  frameAlert : ClassState
  deriving DecidableEq, Repr

/-- The line mode (R187). -/
inductive AttnMode where
  | level | pulse
  deriving DecidableEq, Repr

/-- The Attention Controller. `pulses` is the model's own view of the ATTN line in PULSE mode: the
number of pulses given since the cold reset. -/
structure Atc where
  mode : AttnMode
  classes : Classes
  pulses : Nat
  deriving DecidableEq, Repr

/-! ### Host Port -/

/-- The statuses of R179. -/
inductive Status where
  | ok | clamped | busy | state | range | unknownRequest | already | notConfigured
  deriving DecidableEq, Repr

/-- The reset cause (R184, R186). -/
inductive ResetCause where
  | cold | warm
  deriving DecidableEq, Repr

/-- An active copy (R185). -/
structure Copy where
  next : Nat
  left : Nat
  deriving DecidableEq, Repr

/-- The hold mark of a break list entry (R72). -/
inductive HoldMark where
  | none | stamp | creel
  deriving DecidableEq, Repr

/-- The eligibility of a side (R66, R72): eligible, or the first unmet condition. -/
inductive Eligibility where
  | eligible | carriage | tier | drive | doff
  deriving DecidableEq, Repr

/-- One entry of a READ_BREAKS answer (R72). -/
structure BreakLine where
  spindle : Nat
  position : Nat
  arrival : Nat
  notBefore : Option Nat
  hold : HoldMark
  deriving DecidableEq, Repr

/-- The READ_BREAKS answer (R72). -/
structure BreaksAnswer where
  lines : List BreakLine
  unlisted : Nat
  eligibility : Eligibility
  wake : Option Nat
  fullReported : Bool
  counts : BdpCounts
  deriving DecidableEq, Repr

/-- The READ_CARRIAGE answer (R97). -/
structure CarriageAnswer where
  state : CarState
  held : Option CarState
  position : Nat
  direction : Dir
  job : Option Job
  jobSeconds : Option Nat
  record : Option ResumeRecord
  doffDemand : Bool
  tierDemand : Bool
  outstanding : Option Order
  stage : Nat
  outcomes : List Outcome
  lastOutcome : Option LastOutcome
  lastFault : Option Byte
  counts : CarCounts
  deriving DecidableEq, Repr

/-- One group of a READ_CREEL answer (R110). -/
structure GroupLine where
  index : Nat
  state : GroupState
  remaining : Nat
  carry : Nat
  out : Nat
  train : Option Nat
  seconds : Option Nat
  deriving DecidableEq, Repr

/-- One entry of a READ_PEERS answer (R132); the `left` figures are in whole seconds. -/
structure PeersAnswer where
  link : LinkState
  health : Nat
  width : Nat
  clock : Nat
  peers : List Peer
  counts : FlcCounts
  deriving DecidableEq, Repr

/-- A READ_TALLY answer (R174). -/
structure TallyAnswer where
  shift : Nat
  tally : Tally
  deriving DecidableEq, Repr

/-- What READ_STATUS returns of one carriage link controller (R97, R184). -/
structure CarSummary where
  state : CarState
  jobs : Nat
  pieced : Nat
  failed : Nat
  lost : Nat
  deriving DecidableEq, Repr

/-- The READ_STATUS figures of a configured station (R184), block by block. -/
structure StatusFigures where
  tier : Tier
  passes : Sides Nat
  latePasses : Sides Nat
  sscCounts : SscCounts
  lostSections : Sides Nat
  census : Sides (List Nat)
  sensorFaults : Nat
  acc : Accum
  efficiency : Nat
  mass : Nat
  overflows : Sides Nat
  dispatches : Sides Nat
  carriages : Sides CarSummary
  stalls : Nat
  unexpectedDockings : Nat
  health : Nat
  peerEntries : Nat
  sent : Nat
  exhausted : Nat
  badFrames : Nat
  cautiousEntries : Nat
  silentEntries : Nat
  conflictEntries : Nat
  doffSlot : Option DoffRecord
  doffSlotD : Option Nat
  trainSlot : Option TrainRecord
  hold : Option HoldRecord
  holdD : Option Nat
  bcuCounts : BcuCounts
  phase : Phase
  progress : Nat
  due : Option Nat
  expected : Option Nat
  overfull : Bool
  doffGo : Bool
  stopReq : Bool
  doffDone : Bool
  doffSeconds : Option Nat
  restartPasses : Option (Sides Nat)
  doffingPeers : Nat
  dsqCounts : DsqCounts
  shift : Nat
  shiftStart : Nat
  shiftEnd : Option Nat
  records : Nat
  stuCounts : StuCounts
  badTransactions : Nat
  discarded : Nat
  ignored : Nat
  copy : Option Copy
  deriving DecidableEq, Repr

/-- The READ_STATUS answer (R184); `figures` is absent before CONFIGURE. -/
structure StatusAnswer where
  cause : ResetCause
  link : LinkState
  clock : Nat
  attnLevel : Bool
  pendingClasses : List AttnClass
  figures : Option StatusFigures
  deriving DecidableEq, Repr

/-- The READ_ATTENTION answer (R189). -/
structure AttentionAnswer where
  classes : Classes
  mode : AttnMode
  level : Bool
  deriving DecidableEq, Repr

/-- A FIND result (R40). -/
structure FindResult where
  found : Bool
  spindle : Nat
  examined : Nat
  deriving DecidableEq, Repr

/-- The payload of an answer. The answers with a byte layout hold their bytes; the others hold their
fields in the order of the owning rule (00_scope.md, 6.6). -/
inductive Payload where
  | empty
  /-- The refused codes of CONFIGURE (R181). -/
  | refusedFields (codes : List Nat)
  /-- The clamped codes and values of CONFIGURE (R182). -/
  | clampedFields (fields : List (Nat × Nat))
  | status (a : StatusAnswer)
  | delta (d : Delta)
  /-- The closed-shift record in the layout of 10.5.1. -/
  | shiftRecord (bytes : List Byte)
  | tally (a : TallyAnswer)
  /-- A chunk (R185): first spindle number, records in the chunk, last mark, and the records in the
  layout of 2.6.1. -/
  | chunk (first count : Nat) (last : Bool) (records : List Byte)
  | find (r : FindResult)
  | breaks (a : BreaksAnswer)
  | carriage (a : CarriageAnswer)
  | creel (groups : List GroupLine) (counts : CmnCounts) (bidding : Option Nat)
  | peers (a : PeersAnswer)
  | attention (a : AttentionAnswer)
  /-- The probe capture with its valid mark (R20). -/
  | probe (capture : Option Capture)
  deriving DecidableEq, Repr

/-- An answer (R177): code echo, status, payload by its fields, and the A bytes of the payload. -/
structure Answer where
  code : Byte
  status : Status
  payload : Payload
  bytes : List Byte
  deriving DecidableEq, Repr

/-- What a read transaction clocked out on MISO (R177): the answer it showed, if there was one, and
the bytes. -/
structure Shown where
  answer : Option Answer
  bytes : List Byte
  deriving DecidableEq, Repr

/-- An edge that falls while a warm restart is taking effect (R186). -/
inductive Edge where
  | driveRise | driveFall | doffDoneRise
  deriving DecidableEq, Repr

/-- The Host Port. `shown` is the model's own view of MISO: the last read transaction. The bad-transaction
count is as wide as those of R178, and 0 at reset (DESIGN CHOICE, notes/assumptions/35.md). -/
structure Hpt where
  current : Option Answer
  ready : Bool
  restarting : Bool
  waiting : List Edge
  copy : Option Copy
  cause : ResetCause
  badTransactions : Nat
  discarded : Nat
  ignored : Nat
  shown : Option Shown
  deriving DecidableEq, Repr

/-- The inputs the frame drives as levels: DRIVE_RUN, and whether DOFF_DONE has risen since it was last
seen low. -/
structure Pins where
  driveRun : Bool
  doffDone : Bool
  deriving DecidableEq, Repr

/-- The FS172: the accepted configuration, the twelve blocks, the input pins, the index of the next
free value, and the queue of waiting commands. -/
structure State where
  cfg : Option Cfg
  ssc : Ssc
  spt : Spt
  pcn : Pcn
  bdp : Sides Breaks
  clc : Sides Carriage
  cmn : Cmn
  flc : Flc
  bcu : Bcu
  dsq : Dsq
  stu : Stu
  hpt : Hpt
  atc : Atc
  pins : Pins
  free : Nat
  pending : List Instr
  deriving DecidableEq, Repr

/-! ### Reset values -/

/-- A chain before CONFIGURE (R22). -/
def Chain.cold : Chain where
  sections := []
  pass := none
  read := none
  readTimer := none
  passTimer := none
  owed := false
  passes := 0
  latePasses := 0

/-- The scanner after a cold reset (R2, R18, R21, R22). -/
def Ssc.cold : Ssc where
  tin := 0
  fr := 0
  tier := .run
  idleTimer := none
  chains := ⟨Chain.cold, Chain.cold⟩
  counts := ⟨0, 0, 0, 0, 0⟩
  probeIndex := none
  capture := none

/-- The table after a cold reset: no records (R43). -/
def Spt.cold : Spt where
  spindles := ⟨[], []⟩
  sensorFaults := 0

/-- The accumulators at 0 (R58). -/
def Accum.zero : Accum where
  good := ⟨0, 0⟩
  slack := ⟨0, 0⟩
  unobserved := ⟨0, 0⟩
  breaks := 0
  carriagePieced := 0
  tenterPieced := 0
  countedFailures := 0
  falseSuccesses := 0
  blocked := 0
  restartEndDowns := 0
  doffs := 0
  copsDoffed := 0
  shortCops := 0
  copSum := ⟨0, 0⟩
  creelChanges := 0
  running := 0
  possible := 0
  shiftStart := 0

/-- The delta at 0 with FRESH clear (R55, R58). -/
def Delta.zero : Delta where
  goodMm := 0
  slackMm := 0
  breaks := 0
  pieced := 0
  fresh := false

/-- The counter after a cold reset (R58). -/
def Pcn.cold : Pcn where
  deliveries := ⟨[], []⟩
  acc := Accum.zero
  delta := Delta.zero

/-- An empty break list (R74). -/
def Breaks.cold : Breaks where
  entries := []
  wake := none
  fullReported := false
  counts := ⟨0, 0, 0, 0, 0⟩

/-- A carriage context after a cold reset (R79). -/
def Carriage.cold : Carriage where
  state := .disconnected
  held := none
  position := 0
  direction := .up
  job := none
  record := none
  doffDemand := false
  tierDemand := false
  outstanding := none
  lastOrder := 0
  lastReport := none
  stage := 0
  outcomes := []
  lastOutcome := none
  lastFault := none
  resumeTaken := false
  exchange := none
  exchangeTimer := none
  answerTimer := none
  silenceTimer := none
  jobTimer := none
  counts := ⟨0, 0, 0, 0, 0, 0, 0, 0, 0, 0, 0⟩

/-- The Creel Monitor after a cold reset (R99, R111). -/
def Cmn.cold : Cmn where
  groups := []
  counts := ⟨0, 0, 0, 0, 0, 0, 0, 0, 0, 0, 0⟩

/-- The Floor Link Controller after a cold reset (R133). The skip mark and the silent-frames figure, for
which R133 gives no value, are clear and 0 (DESIGN CHOICE, notes/assumptions/21.md). -/
def Flc.cold : Flc where
  link := .off
  health := 0
  width := 8
  clock := 0
  queue := []
  slot := none
  peers := []
  joinTimer := none
  silentTimer := none
  beaconTimer := none
  skip := false
  silentFrames := 0
  counts := ⟨0, 0, 0, 0, 0, 0, 0, 0, 0, 0, 0, 0, 0, 0, 0, 0, 0, 0, 0, 0⟩

/-- The Bay Claim Unit after a cold reset (R135). -/
def Bcu.cold : Bcu where
  doff := none
  train := none
  hold := none
  counts := ⟨0, 0, 0, 0, 0, 0, 0, 0, 0, 0⟩

/-- The Doff Sequencer after a cold reset (R163). -/
def Dsq.cold : Dsq where
  phase := .spinning
  progress := 0
  due := none
  basis := none
  expected := none
  overfull := false
  doffGo := false
  stopReq := false
  doffTimer := none
  limitTimer := none
  longDoff := false
  passCount := ⟨0, 0⟩
  counts := ⟨0, 0, 0, 0, 0, 0, 0, 0, 0, 0⟩

/-- The Shift Tally Unit after a cold reset (R176). -/
def Stu.cold : Stu where
  number := 0
  records := []
  counts := ⟨0, 0, 0, 0, 0, 0, 0, 0, 0, 0, 0, 0, 0⟩

/-- A class after a cold reset: clear, count 0, enabled (R187). -/
def ClassState.cold : ClassState := ⟨false, 0, true⟩

/-- The Attention Controller after a cold reset (R187). -/
def Atc.cold : Atc where
  mode := .level
  classes := ⟨.cold, .cold, .cold, .cold, .cold, .cold, .cold, .cold, .cold⟩
  pulses := 0

/-- The Host Port after a cold reset (R177, R178, R185, R186). -/
def Hpt.cold : Hpt where
  current := none
  ready := false
  restarting := false
  waiting := []
  copy := none
  cause := .cold
  badTransactions := 0
  discarded := 0
  ignored := 0
  shown := none

/-- The station right after a cold reset, its queue empty (R186). The two input pins and the index
of the next free value stand at the values that notes/assumptions/5.md and 21.md name. -/
def State.reset : State where
  cfg := none
  ssc := Ssc.cold
  spt := Spt.cold
  pcn := Pcn.cold
  bdp := ⟨Breaks.cold, Breaks.cold⟩
  clc := ⟨Carriage.cold, Carriage.cold⟩
  cmn := Cmn.cold
  flc := Flc.cold
  bcu := Bcu.cold
  dsq := Dsq.cold
  stu := Stu.cold
  hpt := Hpt.cold
  atc := Atc.cold
  pins := ⟨false, false⟩
  free := 0
  pending := []

end Sys2Proof.Machine
end

