-- ==== Sys2Proof/Machine/Ops.lean ====
section
/-! DEFINITION. The named operations over the state that every family uses: the updates of a block,
of a side and of a record, saturating figures, timers, and the geometry of the frame. -/

namespace Sys2Proof.Machine

open Sys2Proof.Config

/-! ### The update of one block -/

def State.setCfg (s : State) (x : Option Cfg) : State := { s with cfg := x }
def State.setSsc (s : State) (x : Ssc) : State := { s with ssc := x }
def State.setSpt (s : State) (x : Spt) : State := { s with spt := x }
def State.setPcn (s : State) (x : Pcn) : State := { s with pcn := x }
def State.setBdp (s : State) (x : Sides Breaks) : State := { s with bdp := x }
def State.setClc (s : State) (x : Sides Carriage) : State := { s with clc := x }
def State.setCmn (s : State) (x : Cmn) : State := { s with cmn := x }
def State.setFlc (s : State) (x : Flc) : State := { s with flc := x }
def State.setBcu (s : State) (x : Bcu) : State := { s with bcu := x }
def State.setDsq (s : State) (x : Dsq) : State := { s with dsq := x }
def State.setStu (s : State) (x : Stu) : State := { s with stu := x }
def State.setHpt (s : State) (x : Hpt) : State := { s with hpt := x }
def State.setAtc (s : State) (x : Atc) : State := { s with atc := x }
def State.setPins (s : State) (x : Pins) : State := { s with pins := x }
def State.setFree (s : State) (x : Nat) : State := { s with free := x }

/-! ### The update of one side's record -/

/-- Replace one chain of the scanner. -/
def State.setChain (s : State) (sd : Side) (c : Chain) : State :=
  s.setSsc { s.ssc with chains := s.ssc.chains.set sd c }

/-- Replace one side of the Break Dispatcher. -/
def State.setBreaks (s : State) (sd : Side) (b : Breaks) : State := s.setBdp (s.bdp.set sd b)

/-- Replace one carriage context. -/
def State.setCar (s : State) (sd : Side) (c : Carriage) : State := s.setClc (s.clc.set sd c)

/-! ### Lists by place -/

/-- Apply f to the element at a place; a place outside the list changes nothing. -/
def updAt {α : Type} (f : α → α) : Nat → List α → List α
  | _, [] => []
  | 0, x :: xs => f x :: xs
  | n + 1, x :: xs => x :: updAt f n xs

/-! ### Saturating figures (00_scope.md, 6.2) -/

/-- Add and stop at a limit. -/
def satAdd (limit a b : Nat) : Nat := min (a + b) limit

/-- Increase a 32-bit saturating count by one. -/
def bump (n : Nat) : Nat := satAdd max32 n 1

/-- Add to a length: full metres move from the remainder into the saturating metres figure (R48). -/
def Length.add (x : Length) (mm : Nat) : Length :=
  { m := satAdd max32 x.m ((x.mm + mm) / 1000), mm := (x.mm + mm) % 1000 }

/-! ### Timers -/

/-- One millisecond of an interval timer (DEDUCED, notes/assumptions/2.md; DESIGN CHOICE,
notes/assumptions/24.md). -/
def tickTimer (t : Option Nat) : Option Nat := t.map (· - 1)

/-- The whole seconds left on a timer, rounded down (DEDUCED, notes/assumptions/16.md). -/
def seconds (t : Option Nat) : Option Nat := t.map (· / 1000)

/-! ### Configuration and geometry (00_scope.md, 3) -/

/-- The accepted configuration; before CONFIGURE, the defaults, which no operation then reads. -/
def State.conf (s : State) : Cfg := s.cfg.getD defaults

/-- Whether CONFIGURE has been accepted. -/
def State.configured (s : State) : Bool := s.cfg.isSome

/-- N, the spindles of a side. -/
def State.n (s : State) : Nat := s.conf.sideSpindles

/-- N/24, the sections of a side. -/
def State.sections (s : State) : Nat := s.n / sectionSize

/-- The spindle number of a side position (R24). -/
def spindleNumber (n : Nat) (sd : Side) (pos : Nat) : Nat :=
  match sd with
  | .L => pos + 1
  | .R => n + pos + 1

/-- The side and position of a spindle number (R24). -/
def spindlePlace (n : Nat) (number : Nat) : Side × Nat :=
  if number ≤ n then (.L, number - 1) else (.R, number - n - 1)

/-- The section, and the group, of a side position (R67, R102). -/
def sectionOf (pos : Nat) : Nat := pos / sectionSize + 1

/-- The frame group index of a side's section (R99). -/
def groupIndex (n : Nat) (sd : Side) (section_ : Nat) : Nat :=
  match sd with
  | .L => section_
  | .R => n / sectionSize + section_

/-- The side and section of a frame group index (R99). -/
def groupPlace (n : Nat) (index : Nat) : Side × Nat :=
  if index ≤ n / sectionSize then (.L, index) else (.R, index - n / sectionSize)

/-- The side positions of a section, in ascending order (00_scope.md, 3.2). -/
def sectionPositions (section_ : Nat) : List Nat :=
  (List.range sectionSize).map (fun i => sectionSize * (section_ - 1) + i)

/-- The interval a configured field in seconds gives a timer. -/
def ms (secs : Nat) : Nat := secs * 1000

/-! ### Records -/

/-- The spindle record at a side position. -/
def State.spindle? (s : State) (sd : Side) (pos : Nat) : Option Spindle :=
  (s.spt.spindles.get sd)[pos]?

/-- Change the spindle record at a side position. -/
def State.modSpindle (s : State) (sd : Side) (pos : Nat) (f : Spindle → Spindle) : State :=
  s.setSpt { s.spt with
    spindles := s.spt.spindles.set sd (updAt f pos (s.spt.spindles.get sd)) }

/-- The records of a section, in position order. -/
def State.sectionSpindles (s : State) (sd : Side) (section_ : Nat) : List Spindle :=
  ((s.spt.spindles.get sd).drop (sectionSize * (section_ - 1))).take sectionSize

/-- The section record of a section. -/
def State.section? (s : State) (sd : Side) (section_ : Nat) : Option Section :=
  (s.ssc.chains.get sd).sections[section_ - 1]?

/-- Change the section record of a section. -/
def State.modSection (s : State) (sd : Side) (section_ : Nat) (f : Section → Section) : State :=
  let c := s.ssc.chains.get sd
  s.setChain sd { c with sections := updAt f (section_ - 1) c.sections }

/-- The delivery record of a section. -/
def State.delivery? (s : State) (sd : Side) (section_ : Nat) : Option Delivery :=
  (s.pcn.deliveries.get sd)[section_ - 1]?

/-- The group record of a frame group index; the index 0 names none. -/
def State.group? (s : State) (index : Nat) : Option Group :=
  if index = 0 then none else s.cmn.groups[index - 1]?

/-- Change the group record of a frame group index. -/
def State.modGroup (s : State) (index : Nat) (f : Group → Group) : State :=
  if index = 0 then s else s.setCmn { s.cmn with groups := updAt f (index - 1) s.cmn.groups }

/-- The number of a side's spindles in a state: the census (R24) (DEDUCED, notes/assumptions/23.md).
-/
def State.census (s : State) (sd : Side) (st : SpindleState) : Nat :=
  (s.spt.spindles.get sd).countP (fun r => r.state == st)

/-- The unlisted BROKEN spindles of a side (R60). -/
def State.unlisted (s : State) (sd : Side) : Nat :=
  s.census sd .broken - (s.bdp.get sd).entries.length

/-! ### Bytes -/

/-- A figure as big-endian bytes, most significant first (00_scope.md, 6.6). -/
def beBytes : Nat → Nat → List Byte
  | 0, _ => []
  | n + 1, x => BitVec.ofNat 8 (x / 256 ^ n) :: beBytes n x

/-- The figure that big-endian bytes spell. -/
def beNat (bytes : List Byte) : Nat := bytes.foldl (fun a b => a * 256 + b.toNat) 0

/-- The exclusive-or of bytes (R1, R75). -/
def xorBytes (bytes : List Byte) : Byte := bytes.foldl (· ^^^ ·) 0

/-- A two's complement figure of 16 bits (R75). -/
def signed16 (x : Nat) : Int := if x < 32768 then (x : Int) else (x : Int) - 65536

/-- Add a signed delta to a place and clamp it to 0..n-1 (R78). -/
def clampPosition (n : Nat) (pos : Nat) (delta : Int) : Nat :=
  min ((pos : Int) + delta).toNat (n - 1)

end Sys2Proof.Machine
end

