-- ==== Sys2Proof/Machine/Flags.lean ====
section
/-! DEFINITION. The attention flags and the ATTN line (R187, R188). -/

namespace Sys2Proof.Machine

/-- The state of one class. -/
def Classes.get (x : Classes) : AttnClass → ClassState
  | .breaks => x.breaks
  | .blocked => x.blocked
  | .carriage => x.carriage
  | .creel => x.creel
  | .doff => x.doff
  | .shift => x.shift
  | .link => x.link
  | .sensor => x.sensor
  | .frameAlert => x.frameAlert

/-- Replace the state of one class. -/
def Classes.set (x : Classes) : AttnClass → ClassState → Classes
  | .breaks, c => { x with breaks := c }
  | .blocked, c => { x with blocked := c }
  | .carriage, c => { x with carriage := c }
  | .creel, c => { x with creel := c }
  | .doff, c => { x with doff := c }
  | .shift, c => { x with shift := c }
  | .link, c => { x with link := c }
  | .sensor, c => { x with sensor := c }
  | .frameAlert, c => { x with frameAlert := c }

/-- The classes in the order of their bits (R187). -/
def allClasses : List AttnClass :=
  [.breaks, .blocked, .carriage, .creel, .doff, .shift, .link, .sensor, .frameAlert]

/-- The bit of a class in a class set (R187). -/
def AttnClass.bit : AttnClass → Nat
  | .breaks => 0
  | .blocked => 1
  | .carriage => 2
  | .creel => 3
  | .doff => 4
  | .shift => 5
  | .link => 6
  | .sensor => 7
  | .frameAlert => 8

/-- A class is named in a class set. -/
def AttnClass.named (c : AttnClass) (set : Nat) : Bool := set.testBit c.bit

/-- Change every class. -/
def Classes.map (f : AttnClass → ClassState → ClassState) (x : Classes) : Classes where
  breaks := f .breaks x.breaks
  blocked := f .blocked x.blocked
  carriage := f .carriage x.carriage
  creel := f .creel x.creel
  doff := f .doff x.doff
  shift := f .shift x.shift
  link := f .link x.link
  sensor := f .sensor x.sensor
  frameAlert := f .frameAlert x.frameAlert

/-- An event of a class: pending, and one more counted, up to 255 (R187). -/
def ClassState.event (c : ClassState) : ClassState :=
  { c with pending := true, count := satAdd 255 c.count 1 }

/-- A class drives the line: enabled and pending (R188). -/
def ClassState.driving (c : ClassState) : Bool := c.enabled && c.pending

/-- An enabled class goes from not driving to driving between two class records. -/
def newlyDriving (before after : Classes) : Bool :=
  allClasses.any (fun c => !(before.get c).driving && (after.get c).driving)

/-- The ATTN line as a level (R188): in PULSE mode it is inactive between pulses (DEDUCED,
notes/assumptions/23.md). -/
def Atc.line (a : Atc) : Bool :=
  match a.mode with
  | .level => allClasses.any (fun c => (a.classes.get c).driving)
  | .pulse => false

/-- Take new class records, with the one pulse that R188 and R189 give in PULSE mode when an enabled
class becomes pending or a pending class becomes enabled. -/
def Atc.take (a : Atc) (classes : Classes) : Atc :=
  { a with
    classes := classes
    pulses :=
      if a.mode = .pulse ∧ newlyDriving a.classes classes then a.pulses + 1 else a.pulses }

/-- The class records after one event (R187): the event's class, and FRAME_ALERT too when the event
is urgent and its class is disabled. -/
def Classes.event (x : Classes) (c : AttnClass) (urgent : Bool) : Classes :=
  let own := x.get c
  let x1 := x.set c own.event
  if urgent && !own.enabled then x1.set .frameAlert (x1.get .frameAlert).event else x1

/-- Raise one attention event (R187, R188; DEDUCED, notes/assumptions/30.md). -/
def raise (c : AttnClass) (urgent : Bool) (s : State) : State :=
  s.setAtc (s.atc.take (s.atc.classes.event c urgent))

end Sys2Proof.Machine
end

