-- ==== Sys2Proof/Machine/Creel.lean ====
section
/-! DEFINITION. The group table of the Creel Monitor: the estimate, the LOW test, the out count and
settling (R99 to R102). -/

namespace Sys2Proof.Machine

open Sys2Proof.Config

/-- The LOW condition: by length or by quorum (R101). -/
def Group.meetsLow (g : Group) (c : Cfg) : Bool :=
  g.remaining ≤ c.rovingLowM * 1000 || c.outQuorum ≤ g.out

/-- The group settles at the end of a bid without a train (R101). -/
def Group.settle (g : Group) (c : Cfg) : Group :=
  { g with state := if g.meetsLow c then .low else .fed, train := none, timer := none }

/-- The LOW test of a FED or LOW group, with its CREEL event at the entry to LOW (R101). -/
def testLow (index : Nat) (s : State) : State :=
  match s.group? index with
  | some g =>
    match g.state with
    | .fed =>
      if g.meetsLow s.conf then
        raise .creel false (s.modGroup index (fun g => { g with state := .low }))
      else s
    | .low =>
      if g.meetsLow s.conf then s else s.modGroup index (fun g => { g with state := .fed })
    | _ => s
  | none => s

/-- A spindle of the group enters ROVING_OUT (R102). -/
def outRise (index : Nat) (s : State) : State :=
  testLow index (s.modGroup index (fun g => { g with out := satAdd sectionSize g.out 1 }))

/-- n spindles of the group leave ROVING_OUT together (R102). -/
def outFall (index n : Nat) (s : State) : State :=
  testLow index (s.modGroup index (fun g => { g with out := g.out - n }))

/-- The draw-down of one group by the whole millimetres of a credit (R100). -/
def Group.draw (g : Group) (c : Cfg) (whole : Nat) : Group :=
  { g with
    remaining := g.remaining - (whole * 10 + g.carry) / c.draftX10
    carry := (whole * 10 + g.carry) % c.draftX10 }

/-- A credit's whole millimetres reach the group of the section (R100); a group in FED is then
tested for LOW. -/
def drawDown (index whole : Nat) (s : State) : State :=
  let s1 := s.modGroup index (fun g => g.draw s.conf whole)
  if (s1.group? index).map Group.state = some .fed then testLow index s1 else s1

/-- Settle one group of the table. -/
def settleGroup (index : Nat) (s : State) : State :=
  s.modGroup index (fun g => g.settle s.conf)

/-- Change the counts of R111. -/
def countCmn (f : CmnCounts → CmnCounts) (s : State) : State :=
  s.setCmn { s.cmn with counts := f s.cmn.counts }

/-- The group in CLAIMING or AWAITING, if any, by frame group index (R100, R110). -/
def biddingGroup (groups : List Group) : Option Nat :=
  (groups.findIdx? (fun g => g.state == .claiming || g.state == .awaiting)).map (· + 1)

end Sys2Proof.Machine
end

