-- ==== Sys2Proof/Machine/Operands.lean ====
section
/-! DEFINITION. What the bytes of a command say: host frames, node answers, carriage answers, floor
frames and CONFIGURE fields. -/

namespace Sys2Proof.Machine

open Sys2Proof.Config

/-! ### Host frames (R177, R178) -/

/-- The payload of a write whose bytes after the code are `body`: present when the form test of R178
passes, that is, the byte count is 3 + P and P is at most 256. -/
def payloadOf (body : List Byte) : Option (List Byte) :=
  match body with
  | hi :: lo :: rest =>
    if rest.length = beNat [hi, lo] ∧ rest.length ≤ 256 then some rest else none
  | _ => none

/-- The side byte of a request: 0 is L, 1 is R, anything else is neither (R183). -/
def sideOf (payload : List Byte) : Option Side :=
  match payload with
  | [b] => if b = 0 then some .L else if b = 1 then some .R else none
  | _ => none

/-! ### Node exchanges (R1) -/

/-- The two bytes of a READ on the chain: the section number and the step (R1). -/
def readBytes (section_ step : Nat) : List Byte := beBytes 1 section_ ++ beBytes 1 step

/-- A complete node answer. -/
structure NodeAnswer where
  restarted : Bool
  counts : List W16
  qualities : List Nat
  deriving DecidableEq, Repr

/-- The big-endian 16-bit figures that a run of bytes holds. -/
def words16 : List Byte → List W16
  | hi :: lo :: rest => BitVec.ofNat 16 (beNat [hi, lo]) :: words16 rest
  | _ => []

/-- A complete answer to the READ of a section: none when its echo or its check byte disagrees. -/
def parseNodeAnswer (section_ : Nat) (bytes : List Byte) : Option NodeAnswer :=
  match bytes with
  | echo :: status :: rest =>
    if echo.toNat = section_ ∧ xorBytes (bytes.take 74) = (bytes.drop 74).headD 0 then
      some { restarted := status ≠ 0
             counts := words16 (rest.take 48)
             qualities := ((rest.drop 48).take 24).map BitVec.toNat }
    else none
  | _ => none

/-! ### Carriage answers (R75) -/

/-- The status of a carriage answer. -/
inductive CarStatus where
  | idle | moving | piecing | parked | fault (code : Byte)
  deriving DecidableEq, Repr

/-- A DONE report. -/
structure DoneReport where
  outcome : Outcome
  position : Nat
  number : Byte
  deriving DecidableEq, Repr

/-- A valid carriage answer. `place` is the 16-bit position field as it stands. -/
structure CarAnswer where
  status : CarStatus
  taken : Byte
  place : Nat
  report : Option DoneReport
  deriving DecidableEq, Repr

/-- A sound answer: valid, and its status is not FAULT (R75). -/
def CarAnswer.sound (a : CarAnswer) : Bool :=
  match a.status with
  | .fault _ => false
  | _ => true

/-- The outcome byte of a report; a byte that is none of the six is treated as ABORTED (DESIGN
CHOICE, notes/assumptions/32.md). -/
def reportOutcome (b : Byte) : Outcome :=
  match b.toNat with
  | 1 => .pieced
  | 2 => .noEnd
  | 3 => .twistFail
  | 4 => .spindleStopped
  | 5 => .noRoving
  | 6 => .obstructed
  | _ => .aborted

/-- The status byte with its fault code; above 4 the answer is bad. -/
def carStatus (b code : Byte) : Option CarStatus :=
  match b.toNat with
  | 0 => some .idle
  | 1 => some .moving
  | 2 => some .piecing
  | 3 => some .parked
  | 4 => some (.fault code)
  | _ => none

/-- A valid answer: 11 bytes, check byte right, status at most 4, report mark at most 1. -/
def parseCarAnswer (bytes : List Byte) : Option CarAnswer :=
  match bytes with
  | [st, code, taken, p1, p0, mark, out, q1, q0, num, check] =>
    if check = xorBytes [st, code, taken, p1, p0, mark, out, q1, q0, num] ∧ mark.toNat ≤ 1 then
      (carStatus st code).map fun status =>
        { status
          taken
          place := beNat [p1, p0]
          report :=
            if mark = 1 then
              some { outcome := reportOutcome out, position := beNat [q1, q0], number := num }
            else none }
    else none
  | _ => none

/-- The byte of an order kind (R75). -/
def OrderKind.byte : OrderKind → Byte
  | .connect => 0x02
  | .release => 0x03
  | .goPiece _ _ => 0x04
  | .abandon => 0x05
  | .park => 0x06
  | .resume => 0x07

/-- Close a transmission with its check byte. -/
def withCheck (bytes : List Byte) : List Byte := bytes ++ [xorBytes bytes]

/-- The transmission of a context (R75): its outstanding order, or a POLL that carries the number of
the most recent order. -/
def transmission (outstanding : Option Order) (last : Byte) : List Byte :=
  match outstanding with
  | none => withCheck [0x01, last]
  | some o =>
    match o.kind with
    | .goPiece p a => withCheck ([o.kind.byte, o.number] ++ beBytes 2 p ++ beBytes 1 a)
    | k => withCheck [k.byte, o.number]

/-! ### Floor frames (R113 to R117) -/

/-- One byte through the CRC register of R114: x^16 + x^12 + x^5 + 1, most significant bit first. -/
def crcBits : Nat → BitVec 16 → BitVec 16
  | 0, r => r
  | n + 1, r => crcBits n (if r.msb then (r <<< 1) ^^^ 0x1021 else r <<< 1)

/-- The CRC of bytes, the register starting at FFFFh (R114). -/
def crc16 (bytes : List Byte) : BitVec 16 :=
  bytes.foldl (fun (r : BitVec 16) (b : Byte) => crcBits 8 (r ^^^ (b.setWidth 16 <<< (8 : Nat)))) 0xFFFF

/-- What an accepted message says (R115). -/
inductive Content where
  | status (phase : Nat)
  | doffClaim (urgency : Nat)
  | doffYield
  | doffStart
  | doffEnd
  | trainClaim (train group urgency : Nat)
  | trainYield (train : Nat)
  | trainTake (train group : Nat)
  | shiftClose (shift : Nat)
  | shiftReport (shift good mass : Nat)
  | trainOffer (train : Nat)
  | trainWithdrawn (train : Nat)
  | trainDocked (train station group : Nat)
  | creelDone (station group : Nat)
  deriving DecidableEq, Repr

/-- The big-endian figure of `count` payload bytes from place `start`. -/
def fieldAt (payload : List Byte) (start count : Nat) : Nat :=
  beNat ((payload.drop start).take count)

/-- The content of a kind code and a payload of that kind's length (R115); none for a foreign form. -/
def parseContent (code : Nat) (p : List Byte) : Option Content :=
  match code, p.length with
  | 0x01, 10 => some (.status (fieldAt p 1 1))
  | 0x02, 6 => some (.doffClaim (fieldAt p 0 6))
  | 0x03, 0 => some .doffYield
  | 0x04, 0 => some .doffStart
  | 0x05, 0 => some .doffEnd
  | 0x06, 5 => some (.trainClaim (fieldAt p 0 2) (fieldAt p 2 1) (fieldAt p 3 2))
  | 0x07, 2 => some (.trainYield (fieldAt p 0 2))
  | 0x08, 3 => some (.trainTake (fieldAt p 0 2) (fieldAt p 2 1))
  | 0x09, 4 => some (.shiftClose (fieldAt p 0 4))
  | 0x0A, 26 => some (.shiftReport (fieldAt p 0 4) (fieldAt p 4 4) (fieldAt p 12 4))
  | 0x41, 2 => some (.trainOffer (fieldAt p 0 2))
  | 0x42, 2 => some (.trainWithdrawn (fieldAt p 0 2))
  | 0x43, 4 => some (.trainDocked (fieldAt p 0 2) (fieldAt p 2 1) (fieldAt p 3 1))
  | 0x44, 2 => some (.creelDone (fieldAt p 0 1) (fieldAt p 1 1))
  | _, _ => none

/-- A good frame of known form (R117). -/
structure Frame where
  sender : Nat
  rail : Bool
  shift : Nat
  stamp : Nat
  content : Content
  deriving DecidableEq, Repr

/-- The tests of R116: whether a frame is good. -/
def frameGood (bytes : List Byte) (stopBitsOk : Bool) : Bool :=
  let l := (bytes.getD 3 0).toNat
  bytes.getD 0 0 == 0x5A && 16 ≤ bytes.length && l ≤ 32 && bytes.length == 16 + l &&
    (crc16 ((bytes.drop 1).take (13 + l))).toNat == fieldAt bytes (14 + l) 2 && stopBitsOk

/-- The form test of R117 on a good frame. -/
def parseFrame (bytes : List Byte) : Option Frame :=
  let sender := (bytes.getD 1 0).toNat
  let code := (bytes.getD 2 0).toNat
  let l := (bytes.getD 3 0).toNat
  if sender = 0 ∨ 63 < sender then none
  else
    (parseContent code ((bytes.drop 14).take l)).map fun content =>
      { sender
        rail := 0x40 ≤ code
        shift := fieldAt bytes 4 4
        stamp := fieldAt bytes 8 6
        content }

/-- The bay test of R117. -/
def inBay (c : Cfg) (sender : Nat) : Bool :=
  sender &&& c.bayMask == c.stationId &&& c.bayMask

/-- The shift kinds pass the bay test (R117). -/
def Content.isShift : Content → Bool
  | .shiftClose _ => true
  | .shiftReport _ _ _ => true
  | _ => false

/-! ### CONFIGURE fields (R180 to R182) -/

/-- One row of the field table of R180. -/
structure FieldRow where
  lo : Nat
  hi : Nat
  deriving DecidableEq, Repr

/-- The ranges of the fields, by code (R180). The three fields that R181 tests stand unclamped. -/
def fieldRange (code : Nat) : Option FieldRow :=
  match code with
  | 2 => some ⟨0, 63⟩
  | 5 => some ⟨1, 1024⟩
  | 6 => some ⟨1000, 20000⟩
  | 7 => some ⟨0, 100⟩
  | 8 => some ⟨16, 1024⟩
  | 9 => some ⟨50, 500⟩
  | 10 => some ⟨600, 990⟩
  | 11 => some ⟨1, 4⟩
  | 12 => some ⟨2, 8⟩
  | 13 => some ⟨1, 4⟩
  | 14 => some ⟨0, 63⟩
  | 15 => some ⟨2, 16⟩
  | 16 => some ⟨500, 2000⟩
  | 17 => some ⟨10, 600⟩
  | 18 => some ⟨60, 3600⟩
  | 19 => some ⟨100, 65535⟩
  | 20 => some ⟨20, 1000⟩
  | 21 => some ⟨100, 800⟩
  | 22 => some ⟨500, 30000⟩
  | 23 => some ⟨0, 1000⟩
  | 24 => some ⟨50, 2000⟩
  | 25 => some ⟨1, 8⟩
  | 26 => some ⟨200, 2000⟩
  | 27 => some ⟨1, 7⟩
  | 28 => some ⟨5, 600⟩
  | 29 => some ⟨60, 1800⟩
  | 30 => some ⟨1, 8⟩
  | 31 => some ⟨10, 120⟩
  | 32 => some ⟨200, 5000⟩
  | 33 => some ⟨10, 500⟩
  | 34 => some ⟨1, 12⟩
  | 35 => some ⟨300, 3600⟩
  | 36 => some ⟨60, 1800⟩
  | 37 => some ⟨240, 720⟩
  | 38 => some ⟨1000, 10000⟩
  | _ => none

/-- The value of a field of a configuration, by code (R180). -/
def cfgField (c : Cfg) (code : Nat) : Nat :=
  match code with
  | 1 => c.stationId
  | 2 => c.bayMask
  | 3 => c.sideSpindles
  | 4 => c.carriages
  | 5 => c.tinPpr
  | 6 => c.spindleRatio
  | 7 => c.lag
  | 8 => c.refMin
  | 9 => c.breakLevel
  | 10 => c.slackLevel
  | 11 => c.breakConfirm
  | 12 => c.slackConfirm
  | 13 => c.restorePasses
  | 14 => c.qualMin
  | 15 => c.qualPasses
  | 16 => c.passMs
  | 17 => c.idleDownS
  | 18 => c.dormantDownS
  | 19 => c.frUm
  | 20 => c.texX10
  | 21 => c.draftX10
  | 22 => c.doffTargetM
  | 23 => c.doffLeadM
  | 24 => c.doffOverrunM
  | 25 => c.doffLimit
  | 26 => c.claimWindowMs
  | 27 => c.pieceTries
  | 28 => c.retryGapS
  | 29 => c.starveS
  | 30 => c.verifyPasses
  | 31 => c.pieceMaxS
  | 32 => c.rovingLenM
  | 33 => c.rovingLowM
  | 34 => c.outQuorum
  | 35 => c.creelMaxS
  | 36 => c.trainWaitS
  | 37 => c.shiftMin
  | 38 => c.statusMs
  | 39 => c.attnMode
  | 40 => c.attnEnable
  | _ => 0

/-- The configuration whose fields have the values v gives their codes. -/
def cfgOf (v : Nat → Nat) : Cfg where
  stationId := v 1
  bayMask := v 2
  sideSpindles := v 3
  carriages := v 4
  tinPpr := v 5
  spindleRatio := v 6
  lag := v 7
  refMin := v 8
  breakLevel := v 9
  slackLevel := v 10
  breakConfirm := v 11
  slackConfirm := v 12
  restorePasses := v 13
  qualMin := v 14
  qualPasses := v 15
  passMs := v 16
  idleDownS := v 17
  dormantDownS := v 18
  frUm := v 19
  texX10 := v 20
  draftX10 := v 21
  doffTargetM := v 22
  doffLeadM := v 23
  doffOverrunM := v 24
  doffLimit := v 25
  claimWindowMs := v 26
  pieceTries := v 27
  retryGapS := v 28
  starveS := v 29
  verifyPasses := v 30
  pieceMaxS := v 31
  rovingLenM := v 32
  rovingLowM := v 33
  outQuorum := v 34
  creelMaxS := v 35
  trainWaitS := v 36
  shiftMin := v 37
  statusMs := v 38
  attnMode := v 39
  attnEnable := v 40

/-- The fields of a CONFIGURE payload, in order: code and value. -/
def fieldList : List Byte → List (Nat × Nat)
  | code :: hi :: lo :: rest => (code.toNat, beNat [hi, lo]) :: fieldList rest
  | _ => []

/-- The last appearance of a code in a field list (R181). -/
def lastField (fields : List (Nat × Nat)) (code : Nat) : Option Nat :=
  (fields.reverse.find? (fun f => f.1 == code)).map Prod.snd

/-- The configuration a field list asks for, before any range is applied. -/
def givenCfg (fields : List (Nat × Nat)) : Cfg :=
  cfgOf (fun code => (lastField fields code).getD (cfgField defaults code))

/-- The codes for which a CONFIGURE is refused (R181); empty when it is accepted. The order of the
list, in which a repeated code outside 1 to 40 stands once, at its last appearance, is the model's
(DESIGN CHOICE, notes/assumptions/17.md). -/
def refusedCodes (payload : List Byte) : List Nat :=
  if payload.length % 3 ≠ 0 then [0]
  else
    let fields := fieldList payload
    let c := givenCfg fields
    (if c.stationId = 0 ∨ 63 < c.stationId then [1] else []) ++
    (if c.sideSpindles < 48 ∨ 864 < c.sideSpindles ∨ c.sideSpindles % 24 ≠ 0 then [3] else []) ++
    (if 3 < c.carriages then [4] else []) ++
    ((fields.map Prod.fst).filter (fun code => code < 1 || 40 < code)).dedup

/-- A value brought into a field's range (R182). -/
def clampField (code value : Nat) : Nat :=
  match fieldRange code with
  | some r => max r.lo (min value r.hi)
  | none => value

/-- The three relations of R182, in their order. -/
def relateCfg (c : Cfg) : Cfg :=
  let c := { c with slackLevel := max c.slackLevel (c.breakLevel + 100) }
  let c := { c with doffLeadM := min c.doffLeadM (c.doffTargetM - 100) }
  { c with rovingLowM := min c.rovingLowM (c.rovingLenM / 2) }

/-- The accepted configuration of a field list (R182). -/
def acceptedCfg (fields : List (Nat × Nat)) : Cfg :=
  let given := givenCfg fields
  let c := cfgOf (fun code => clampField code (cfgField given code))
  relateCfg { c with
    attnMode := if 1 < c.attnMode then 0 else c.attnMode
    attnEnable := (c.attnEnable ||| 256) &&& 511 }

/-- The fields that acceptance changed, with the values they now hold (R182). The list is in ascending
order of the codes (DESIGN CHOICE, notes/assumptions/17.md). -/
def clampedList (fields : List (Nat × Nat)) : List (Nat × Nat) :=
  let given := givenCfg fields
  let held := acceptedCfg fields
  ((List.range 41).drop 1).filterMap fun code =>
    if cfgField given code = cfgField held code then none else some (code, cfgField held code)

end Sys2Proof.Machine
end

