-- ==== Sys2Proof/Machine/Floor.lean ====
section
/-! DEFINITION. The transmit side of the Floor Link Controller: the queue, the slot and the messages
sent (R114, R115, R120, R121). -/

namespace Sys2Proof.Machine

open Sys2Proof.Config

/-! ### Messages sent (R114, R115) -/

/-- The class of a message in the queue (R120). -/
def Msg.cls : Msg → Nat
  | .shiftClose _ => 2
  | .status => 3
  | .shiftReport _ _ _ _ _ _ _ => 4
  | _ => 1

/-- The kind code of a message (R115). -/
def Msg.code : Msg → Nat
  | .status => 0x01
  | .doffClaim _ => 0x02
  | .doffYield => 0x03
  | .doffStart => 0x04
  | .doffEnd => 0x05
  | .trainClaim _ _ _ => 0x06
  | .trainYield _ => 0x07
  | .trainTake _ _ => 0x08
  | .shiftClose _ => 0x09
  | .shiftReport _ _ _ _ _ _ _ => 0x0A

/-- The code of a tier in STATUS (R115). -/
def Tier.code : Tier → Nat
  | .run => 0
  | .slow => 1
  | .dormant => 2

/-- The code of a doff phase in STATUS (R115). -/
def Phase.code : Phase → Nat
  | .spinning => 0
  | .prewarn => 1
  | .due => 2
  | .claiming => 3
  | .holding => 4
  | .doffing => 5
  | .restarting => 6

/-- The code of a link state (R123). -/
def LinkState.code : LinkState → Nat
  | .off => 0
  | .join => 1
  | .active => 2
  | .cautious => 3
  | .silent => 4
  | .conflict => 5

/-- The due stamp that the phase gives to STATUS (R148). -/
def Dsq.statusDue (d : Dsq) : Option Nat :=
  match d.phase with
  | .prewarn => d.expected
  | .due => d.due
  | .claiming => d.due
  | .holding => d.due
  | _ => none

/-- The payload of a message; a STATUS is formed from the state at the attempt (R115, R121). -/
def payloadBytes (s : State) : Msg → List Byte
  | .status =>
    beBytes 1 s.ssc.tier.code ++ beBytes 1 s.dsq.phase.code ++ beBytes 1 s.flc.link.code ++
      (match s.dsq.statusDue with
       | some d => beBytes 1 1 ++ beBytes 6 d
       | none => beBytes 7 0)
  | .doffClaim u => beBytes 6 u
  | .doffYield => []
  | .doffStart => []
  | .doffEnd => []
  | .trainClaim t g u => beBytes 2 t ++ beBytes 1 g ++ beBytes 2 (min u 65535)
  | .trainYield t => beBytes 2 t
  | .trainTake t g => beBytes 2 t ++ beBytes 1 g
  | .shiftClose n => beBytes 4 n
  | .shiftReport n good slack mass doffs breaks eff =>
    beBytes 4 n ++ beBytes 4 good ++ beBytes 4 slack ++ beBytes 4 mass ++ beBytes 4 doffs ++
      beBytes 4 breaks ++ beBytes 2 eff

/-- The bytes of a message composed now (R114, R121): the CRC covers all but the sync byte (DEDUCED,
notes/assumptions/22.md). -/
def compose (s : State) (m : Msg) : List Byte :=
  let payload := payloadBytes s m
  let covered :=
    beBytes 1 s.conf.stationId ++ beBytes 1 m.code ++ beBytes 1 payload.length ++
      beBytes 4 s.stu.number ++ beBytes 6 s.flc.clock ++ payload
  0x5A :: covered ++ beBytes 2 (crc16 covered).toNat

/-! ### The transmit queue (R120) -/

/-- Insert a message in class order, after the messages of its own class. -/
def insertMsg (m : Msg) : List Msg → List Msg
  | [] => [m]
  | x :: xs => if m.cls < x.cls then m :: x :: xs else x :: insertMsg m xs

/-- Place an offered message in the queue: the new queue, and whether a message was dropped. -/
def placeMsg (m : Msg) (q : List Msg) : List Msg × Bool :=
  if m = .status ∧ .status ∈ q then (q, false)
  else if q.length < queueMax then (insertMsg m q, false)
  else if q.any (fun x => m.cls < x.cls) then (insertMsg m q.dropLast, true)
  else (q, true)

/-- The link states in which the station sends (R123). -/
def LinkState.sends : LinkState → Bool
  | .active => true
  | .cautious => true
  | _ => false

/-- The link states in which an offered message is queued (R120). -/
def LinkState.queues : LinkState → Bool
  | .join => true
  | .active => true
  | .cautious => true
  | _ => false

/-- The first attempt's view of a message in the slot: its backoff draw is a free value below W
(R121; DESIGN CHOICE, notes/assumptions/7.md). -/
def newSlot (m : Msg) (width index : Nat) : Slot where
  msg := m
  attempts := 0
  slotsLeft := backoffDraw index % width
  sending := none

/-- Move the head of the queue into an empty slot when the link sends (R121). -/
def fillSlot (s : State) : State :=
  match s.flc.slot, s.flc.queue with
  | none, m :: rest =>
    if s.flc.link.sends then
      (s.setFlc { s.flc with
        slot := some (newSlot m s.flc.width s.free), queue := rest }).setFree (s.free + 1)
    else s
  | _, _ => s

/-- Offer a message for sending (R120). -/
def offer (m : Msg) (s : State) : State :=
  if s.flc.link.queues then
    let p := placeMsg m s.flc.queue
    fillSlot (s.setFlc { s.flc with
      queue := p.1
      counts := { s.flc.counts with
        queueDrops := if p.2 then bump s.flc.counts.queueDrops else s.flc.counts.queueDrops } })
  else
    s.setFlc { s.flc with
      counts := { s.flc.counts with refused := bump s.flc.counts.refused } }

/-- Abandon the transmission in progress (R122). -/
def abandonTransmission (s : State) : State :=
  match s.flc.slot with
  | some _ =>
    s.setFlc { s.flc with
      slot := none
      width := 8
      counts := { s.flc.counts with cleared := bump s.flc.counts.cleared } }
  | none => s

/-- Clear the queue, counting its messages (R126, R128, R134). -/
def clearQueue (s : State) : State :=
  s.setFlc { s.flc with
    queue := []
    counts := { s.flc.counts with
      cleared := satAdd max32 s.flc.counts.cleared s.flc.queue.length } }

/-! ### The attempt (R121) -/

/-- The backoff count has reached zero: the attempt is counted, the message composed and sending
begins (R121, step 3). -/
def transmitAttemptStart (s : State) : State :=
  match s.flc.slot with
  | some sl =>
    if sl.sending.isNone then
      s.setFlc { s.flc with
        slot := some { sl with
          attempts := sl.attempts + 1, slotsLeft := 0, sending := some (compose s sl.msg) }
        counts := { s.flc.counts with attempts := bump s.flc.counts.attempts } }
    else s
  | none => s

/-- A byte began on the line during the backoff: the countdown stops with the slots that remain
(R121, step 2). -/
def backoffCountdownStopped (counted : Nat) (s : State) : State :=
  match s.flc.slot with
  | some sl =>
    if sl.sending.isNone then
      s.setFlc { s.flc with slot := some { sl with slotsLeft := sl.slotsLeft - counted } }
    else s
  | none => s

/-- TRANSMIT_ATTEMPT_START. -/
def execTransmitAttemptStart (s : State) : Host.Outcome State Fault Refusal :=
  .next (transmitAttemptStart s)

/-- BACKOFF_COUNTDOWN_STOPPED. -/
def execBackoffCountdownStopped (counted : Nat) (s : State) : Host.Outcome State Fault Refusal :=
  .next (backoffCountdownStopped counted s)

end Sys2Proof.Machine
end

