-- ==== Sys2Proof/Machine/Claims.lean ====
section
/-! DEFINITION. The Bay Claim Unit with the claims of the Doff Sequencer and of the Creel Monitor
(R135 to R144, R152 to R154). -/

namespace Sys2Proof.Machine

open Sys2Proof.Config

/-- One claim key ranks ahead of another: lower urgency, or equal urgency and lower id (R136). -/
def keyAhead (u1 id1 u2 id2 : Nat) : Bool := u1 < u2 || (u1 == u2 && id1 < id2)

/-- What a peer entry adds to D against a reference key (R138). -/
def Peer.addsToD (p : Peer) (urgency id : Nat) : Bool :=
  match p.phase with
  | .doffing => true
  | _ =>
    match p.doffClaim with
    | some k => keyAhead k.urgency p.id urgency id
    | none => false

/-- D against the reference key of an urgency and the own id (R138). -/
def State.dCount (s : State) (urgency : Nat) : Nat :=
  s.flc.peers.countP (fun p => p.addsToD urgency s.conf.stationId)

/-- Change the counts of R145. -/
def countBcu (f : BcuCounts → BcuCounts) (s : State) : State :=
  s.setBcu { s.bcu with counts := f s.bcu.counts }

/-! ### Doff claims -/

/-- The urgency of the sequencer's next doff claim (R152): 0 when overfull, else the due stamp
(DESIGN CHOICE, notes/assumptions/27.md). -/
def Dsq.urgency (d : Dsq) : Nat := if d.overfull then 0 else d.due.getD 0

/-- Start the doff claim: the unit fills the slot and offers DOFF_CLAIM (R137), and the phase becomes
CLAIMING (R152). -/
def startDoffClaim (s : State) : State :=
  let u := s.dsq.urgency
  let s1 := s.setBcu { s.bcu with
    doff := some { urgency := u, left := s.conf.claimWindowMs }
    counts := { s.bcu.counts with doffClaims := bump s.bcu.counts.doffClaims } }
  let s2 := offer (.doffClaim u) s1
  s2.setDsq { s2.dsq with phase := .claiming }

/-- The re-claim test, and the slot-open notice when it passes (R140, R154). -/
def reclaimTest (s : State) : State :=
  match s.bcu.hold with
  | some h =>
    if h.holdOff.isNone && s.flc.link.sends && s.dCount h.urgency < s.conf.doffLimit then
      startDoffClaim (s.setBcu { s.bcu with
        hold := none
        counts := { s.bcu.counts with slotOpen := bump s.bcu.counts.slotOpen } })
    else s
  | none => s

/-- Hand the hold record urgency 0; D is counted again (R140, R154). -/
def handHoldUrgency (s : State) : State :=
  match s.bcu.hold with
  | some h => reclaimTest (s.setBcu { s.bcu with hold := some { h with urgency := 0 } })
  | none => s

/-- The entry to HOLDING after a claim of an urgency (R153). -/
def enterHolding (urgency : Nat) (s : State) : State :=
  let s1 := s.setDsq { s.dsq with
    phase := .holding
    counts := { s.dsq.counts with holdings := bump s.dsq.counts.holdings } }
  if s1.dsq.overfull && urgency != 0 then handHoldUrgency s1 else s1

/-- Empty the doff slot and make the hold record with the claim's urgency (R139, R140, R144). -/
def holdDoffClaim (urgency : Nat) (s : State) : State :=
  s.setBcu { s.bcu with
    doff := none
    hold := some { urgency := urgency, holdOff := some s.conf.claimWindowMs } }

/-- The open doff claim yields (R139). -/
def doffYield (r : DoffRecord) (s : State) : State :=
  let s1 := holdDoffClaim r.urgency (offer .doffYield s)
  let s2 := countBcu (fun c => { c with doffYields := bump c.doffYields }) s1
  enterHolding r.urgency s2

/-- A recount of D after a change of the view: an open doff claim is tested (R139), and the hold
record's re-claim test is made (R140). -/
def recountD (s : State) : State :=
  match s.bcu.doff with
  | some r => if s.conf.doffLimit ≤ s.dCount r.urgency then doffYield r s else s
  | none => reclaimTest s

/-- The link abandons the open doff claim (R144). -/
def abandonDoffClaim (s : State) : State :=
  match s.bcu.doff with
  | some r =>
    let s1 := holdDoffClaim r.urgency s
    let s2 := countBcu (fun c => { c with doffAbandons := bump c.doffAbandons }) s1
    enterHolding r.urgency s2
  | none => s

/-! ### Train claims -/

/-- The train claim is abandoned: no message; the Creel Monitor's group settles (R104, R141). -/
def abandonTrainClaim (s : State) : State :=
  match s.bcu.train with
  | some r =>
    let s1 := s.setBcu { s.bcu with
      train := none
      counts := { s.bcu.counts with trainAbandons := bump s.bcu.counts.trainAbandons } }
    countCmn (fun c => { c with abandons := bump c.abandons }) (settleGroup r.group s1)
  | none => s

/-- The train claim yields: TRAIN_YIELD is offered; the Creel Monitor's group settles (R104,
R141). -/
def yieldTrainClaim (s : State) : State :=
  match s.bcu.train with
  | some r =>
    let s1 := offer (.trainYield r.train) s
    let s2 := s1.setBcu { s1.bcu with
      train := none
      counts := { s1.bcu.counts with trainYields := bump s1.bcu.counts.trainYields } }
    countCmn (fun c => { c with yields := bump c.yields }) (settleGroup r.group s2)
  | none => s

/-- An entry holds a take of a train. -/
def Peer.takes (p : Peer) (train : Nat) : Bool :=
  match p.trainTake with
  | some t => t.train == train
  | none => false

/-- An entry holds a claim of a train that ranks ahead of a key. -/
def Peer.claimsAhead (p : Peer) (train urgency id : Nat) : Bool :=
  match p.trainClaim with
  | some k => k.train == train && keyAhead k.urgency p.id urgency id
  | none => false

/-- The start test of a train claim against the peer view (R141). -/
def trainStartTest (s : State) : State :=
  match s.bcu.train with
  | some r =>
    if s.flc.peers.any (fun p => p.takes r.train) then abandonTrainClaim s
    else if s.flc.peers.any (fun p => p.claimsAhead r.train r.urgency s.conf.stationId) then
      yieldTrainClaim s
    else s
  | none => s

/-- Start a train claim (R137). -/
def startTrainClaim (train group urgency : Nat) (s : State) : State :=
  let s1 := s.setBcu { s.bcu with
    train := some
      { train := train, group := group, urgency := urgency, left := s.conf.claimWindowMs }
    counts := { s.bcu.counts with trainClaims := bump s.bcu.counts.trainClaims } }
  trainStartTest (offer (.trainClaim train group urgency) s1)

/-- A peer's TRAIN_CLAIM acts on the open train claim (R141). -/
def trainClaimHeard (sender train urgency : Nat) (s : State) : State :=
  match s.bcu.train with
  | some r =>
    if r.train = train ∧ keyAhead urgency sender r.urgency s.conf.stationId then yieldTrainClaim s
    else s
  | none => s

/-- A TRAIN_TAKE or a TRAIN_WITHDRAWN acts on the open train claim (R141). -/
def trainGone (train : Nat) (s : State) : State :=
  match s.bcu.train with
  | some r => if r.train = train then abandonTrainClaim s else s
  | none => s

/-- The Creel Monitor withdraws its train claim: no message and no result (R143). -/
def withdrawTrainClaim (s : State) : State :=
  match s.bcu.train with
  | some _ =>
    s.setBcu { s.bcu with
      train := none
      counts := { s.bcu.counts with withdrawals := bump s.bcu.counts.withdrawals } }
  | none => s

/-- The link tells the unit to abandon both own claims (R144). -/
def abandonOwnClaims (s : State) : State := abandonTrainClaim (abandonDoffClaim s)

/-- The train window expires: the claim is won (R104, R142). -/
def trainWindowExpiry (s : State) : State :=
  match s.bcu.train with
  | some r =>
    let s1 := offer (.trainTake r.train r.group) s
    let s2 := s1.setBcu { s1.bcu with
      train := none
      counts := { s1.bcu.counts with trainWins := bump s1.bcu.counts.trainWins } }
    let s3 := s2.modGroup r.group (fun g =>
      { g with state := .awaiting, timer := some (ms s.conf.trainWaitS) })
    countCmn (fun c => { c with trainsWon := bump c.trainsWon }) s3
  | none => s

/-- The hold-off timer expires: it stands expired and the re-claim test is made (R140). -/
def holdOffExpiry (s : State) : State :=
  match s.bcu.hold with
  | some h =>
    match h.holdOff with
    | some _ => reclaimTest (s.setBcu { s.bcu with hold := some { h with holdOff := none } })
    | none => s
  | none => s

/-- TRAIN_WINDOW_EXPIRY. -/
def execTrainWindowExpiry (s : State) : Host.Outcome State Fault Refusal :=
  .next (trainWindowExpiry s)

/-- HOLD_OFF_EXPIRY. -/
def execHoldOffExpiry (s : State) : Host.Outcome State Fault Refusal :=
  .next (holdOffExpiry s)

end Sys2Proof.Machine
end

