-- ==== Sys2Proof/Machine/Carriage.lean ====
section
/-! DEFINITION. The carriage context by itself: orders, the held state, park demands, and the start of
a job (R77, R79, R80, R87, R93 to R95). -/

namespace Sys2Proof.Machine

open Sys2Proof.Config

/-- The state that events act on: the held state in SUSPECT, else the state (R81). -/
def Carriage.eff (c : Carriage) : CarState :=
  match c.state, c.held with
  | .suspect, some h => h
  | st, _ => st

/-- Change the state that events act on (R81). -/
def Carriage.setEff (c : Carriage) (st : CarState) : Carriage :=
  match c.state with
  | .suspect => { c with held := some st }
  | _ => { c with state := st }

/-- Issue an order: the next number, and it becomes the outstanding order (R77). -/
def Carriage.issue (c : Carriage) (k : OrderKind) : Carriage :=
  { c with
    lastOrder := c.lastOrder + 1
    outstanding := some { kind := k, number := c.lastOrder + 1 } }

/-- Drop an outstanding ABANDON: draining has ended (R80) (DEDUCED, notes/assumptions/18.md). -/
def Carriage.dropAbandon (c : Carriage) : Carriage :=
  match c.outstanding with
  | some o => if o.kind = .abandon then { c with outstanding := none } else c
  | none => c

/-- A park demand is set (R93). -/
def Carriage.demand (c : Carriage) : Bool := c.doffDemand || c.tierDemand

/-- The outstanding order is of a kind. -/
def Carriage.outstandingIs (c : Carriage) (k : OrderKind) : Bool :=
  match c.outstanding with
  | some o => o.kind == k
  | none => false

/-- In PARKED with both demands clear, RESUME is issued unless one is outstanding or has been taken
since the entry to PARKED (R95). -/
def Carriage.resumeIfClear (c : Carriage) : Carriage :=
  if c.eff = .parked ∧ c.demand = false ∧ c.outstandingIs .resume = false ∧ c.resumeTaken = false
  then c.issue .resume else c

/-- The entry to PARKED (R80, R95). -/
def Carriage.enterParked (c : Carriage) : Carriage :=
  ({ c.dropAbandon.setEff .parked with resumeTaken := false }).resumeIfClear

/-- Remove the job and stop its timer (R87). -/
def Carriage.dropJob (c : Carriage) : Carriage := { c with job := none, jobTimer := none }

/-- A tier park suspends a job that is not piecing (R93). -/
def Carriage.suspendJob (c : Carriage) : Carriage :=
  match c.job with
  | some j =>
    if j.seen = some .piecing then c
    else
      { c.dropJob with
        record := some
          { spindle := j.spindle, position := j.position, attempt := j.attempt
            direction := c.direction } }
  | none => c

/-- The context is parked by a demand that finds the other clear (R93, R95). -/
def Carriage.park (c : Carriage) : Carriage :=
  match c.eff with
  | .ready => (c.issue .park).setEff .parking
  | .dispatched => (c.issue .park).setEff .parking
  | .parked =>
    if c.outstandingIs .resume then c.issue .park
    else if c.resumeTaken then (c.issue .park).setEff .parking
    else c
  | _ => c

/-- The tier demand is set (R93). -/
def Carriage.tierPark (c : Carriage) : Carriage :=
  let c1 := { c with tierDemand := true }
  if c.doffDemand then c1
  else if c.eff = .dispatched then c1.park.suspendJob
  else c1.park

/-- DOFF_START reaches the controller: the doff demand is set, the context parked, and the job and
the resume record go with no outcome (R94). -/
def Carriage.doffPark (c : Carriage) : Carriage :=
  let c1 := { c with doffDemand := true }
  let c2 := if c.tierDemand then c1 else c1.park
  { c2.dropJob with record := none }

/-- The tier demand is cleared (R95). -/
def Carriage.tierResume (c : Carriage) : Carriage :=
  ({ c with tierDemand := false }).resumeIfClear

/-- The doff demand is cleared (R95). -/
def Carriage.doffResume (c : Carriage) : Carriage :=
  ({ c with doffDemand := false }).resumeIfClear

/-- A dispatch reaches the controller (R87) (DEDUCED, notes/assumptions/29.md). -/
def Carriage.startJob (c : Carriage) (n : Nat) (sd : Side) (pos attempt now pieceMaxS : Nat) :
    Carriage :=
  let c1 := c.issue (.goPiece pos attempt)
  { c1 with
    job := some
      { spindle := spindleNumber n sd pos, position := pos, attempt := attempt, stamp := now
        seen := none }
    state := .dispatched
    jobTimer := some (ms pieceMaxS)
    counts := { c.counts with jobs := bump c.counts.jobs } }

/-- A sensor fault ends the job or the record of a spindle with no outcome (R92). -/
def Carriage.abortSpindle (c : Carriage) (pos : Nat) : Carriage :=
  if c.job.any (fun j => j.position == pos) then
    if c.eff = .dispatched then c.dropJob.issue .abandon else c.dropJob
  else if c.record.any (fun r => r.position == pos) then { c with record := none }
  else c

/-- The entry to CONNECTING with CONNECT (R84). -/
def Carriage.enterConnecting (c : Carriage) : Carriage :=
  { c.issue .connect with
    state := .connecting, lastReport := none, silenceTimer := some silenceMs }

/-- The entry to SUSPECT, by a silence expiry or a FAULT answer (R81, R82). -/
def Carriage.enterSuspect (c : Carriage) : Carriage :=
  { c with
    state := .suspect, held := some c.state, stage := 1, silenceTimer := some silenceMs }

/-- A sound answer in SUSPECT ends it (R81). -/
def Carriage.endSuspect (c : Carriage) : Carriage :=
  match c.state, c.held with
  | .suspect, some h => { c with state := h, held := none, stage := 0 }
  | _, _ => c

/-- A FAULT answer is noted (R82, R83) (DESIGN CHOICE, notes/assumptions/20.md). -/
def Carriage.noteFault (c : Carriage) (code : Byte) : Carriage :=
  { c with lastFault := some code, counts := { c.counts with faults := bump c.counts.faults } }

/-- The end of a release: exchanges cease (R86). -/
def Carriage.endRelease (c : Carriage) : Carriage :=
  { c with outstanding := none, exchangeTimer := none, silenceTimer := none }

/-- The exchange timer expires: it starts again and one transmission is sent (R75). -/
def Carriage.exchangeNow (c : Carriage) : Carriage :=
  match c.exchangeTimer with
  | some _ =>
    { c with
      exchangeTimer := some exchangeMs
      exchange := some (transmission c.outstanding c.lastOrder)
      answerTimer := some carriageTimeoutMs
      counts := { c.counts with exchanges := bump c.counts.exchanges } }
  | none => c

/-- The exchange completes: its answer timeout stops (R75). -/
def Carriage.endExchange (c : Carriage) : Carriage :=
  { c with exchange := none, answerTimer := none }

/-- The exchange completes unanswered (R75). -/
def Carriage.unanswered (c : Carriage) : Carriage :=
  match c.exchange with
  | some _ =>
    { c.endExchange with
      counts := { c.counts with unanswered := bump c.counts.unanswered } }
  | none => c

/-- Add an outcome kind to the outcome set, without duplicates (R88). -/
def Carriage.addOutcome (c : Carriage) (k : Outcome) (pos now : Nat) (d : Disposition) : Carriage :=
  { c with
    outcomes := if k ∈ c.outcomes then c.outcomes else c.outcomes ++ [k]
    lastOutcome := some { kind := k, position := pos, stamp := now, disposition := d } }

/-- The context counts of a reported outcome (R89). -/
def CarCounts.report (x : CarCounts) : Outcome → CarCounts
  | .pieced => { x with pieced := bump x.pieced }
  | .noEnd => { x with failed := bump x.failed }
  | .twistFail => { x with failed := bump x.failed }
  | .spindleStopped => { x with failed := bump x.failed }
  | .timeout => { x with failed := bump x.failed, timeouts := bump x.timeouts }
  | _ => x

/-- A warm restart of a context (R98). An exchange in progress is kept, with its answer timeout (DESIGN
CHOICE, notes/assumptions/31.md). -/
def Carriage.warmRestart (c : Carriage) : Carriage :=
  let c1 :=
    { c.dropJob with record := none, tierDemand := false, held := none, stage := 0 }
  if c.state = .disconnected then c1.endRelease
  else
    { c1.issue .park with
      state := .connecting, lastReport := none
      exchangeTimer := some exchangeMs, silenceTimer := some silenceMs }

end Sys2Proof.Machine
end

