-- ==== Sys2Proof/Machine/BreakLists.lean ====
section
/-! DEFINITION. The Break Dispatcher: the lists, the search and the refill, the examination and the
dispatch (R40, R41, R60 to R71). -/

namespace Sys2Proof.Machine

open Sys2Proof.Config

/-! ### The search (R40, R41) -/

/-- The place after a place in a direction, wrapping within `size` places (R41). -/
def nextPlace (size : Nat) (dir : Dir) (i : Nat) : Nat :=
  match dir with
  | .up => if i + 1 < size then i + 1 else 0
  | .down => if i = 0 then size - 1 else i - 1

/-- Walk at most `fuel` places from i; the place that matched, or the last one examined, and how many
were examined (R40). -/
def searchFrom (cond : Nat → Bool) (size : Nat) (dir : Dir) : Nat → Nat → Nat → Bool × Nat × Nat
  | 0, i, k => (false, i, k)
  | fuel + 1, i, k =>
    if cond i then (true, i, k + 1)
    else if fuel = 0 then (false, i, k + 1)
    else searchFrom cond size dir fuel (nextPlace size dir i) (k + 1)

/-! ### Entries (R60) -/

/-- Insert an entry at its place in position order; an entry of the same position is replaced. -/
def insertEntry (e : BreakEntry) : List BreakEntry → List BreakEntry
  | [] => [e]
  | x :: xs =>
    if e.position < x.position then e :: x :: xs
    else if e.position = x.position then e :: xs
    else x :: insertEntry e xs

/-- Remove the entry of a position. -/
def removeEntry (pos : Nat) (es : List BreakEntry) : List BreakEntry :=
  es.filter (fun e => e.position != pos)

/-- The earliest not-before stamp later than now (R68). -/
def wakeOf (es : List BreakEntry) (now : Nat) : Option Nat :=
  ((es.filterMap BreakEntry.notBefore).filter (fun t => now < t)).min?

/-- Recompute a side's wake stamp (R68). -/
def recomputeWake (sd : Side) (s : State) : State :=
  let b := s.bdp.get sd
  s.setBreaks sd { b with wake := wakeOf b.entries s.flc.clock }

/-- Change the counts of R73 of a side. -/
def countBdp (sd : Side) (f : BdpCounts → BdpCounts) (s : State) : State :=
  let b := s.bdp.get sd
  s.setBreaks sd { b with counts := f b.counts }

/-- Set or clear the listed flag of a record (R29). -/
def setListed (sd : Side) (pos : Nat) (x : Bool) (s : State) : State :=
  s.modSpindle sd pos (fun r => { r with listed := x })

/-- Put an entry into a side's list and set the record's listed flag (R29, R61, R64). -/
def listEntry (sd : Side) (pos : Nat) (nb : Option Nat) (s : State) : State :=
  let b := s.bdp.get sd
  setListed sd pos true (s.setBreaks sd { b with
    entries := insertEntry { position := pos, arrival := s.flc.clock, notBefore := nb } b.entries })

/-- Take an entry out of a side's list and clear the full-reported mark (R62, R63). -/
def unlistEntry (sd : Side) (pos : Nat) (s : State) : State :=
  let b := s.bdp.get sd
  s.setBreaks sd { b with entries := removeEntry pos b.entries, fullReported := false }

/-! ### Refill (R64) -/

/-- An unlisted BROKEN spindle stands at a side position. -/
def unlistedBroken (s : State) (sd : Side) (pos : Nat) : Bool :=
  match s.spindle? sd pos with
  | some r => r.state == .broken && !r.listed
  | none => false

/-- The refill's searches: at most `fuel` listings, each from the place after the last. -/
def refillLoop (sd : Side) (dir : Dir) : Nat → Nat → State → State
  | 0, _, s => s
  | fuel + 1, start, s =>
    if (s.bdp.get sd).entries.length < listMax ∧ 0 < s.unlisted sd then
      match searchFrom (unlistedBroken s sd) s.n dir s.n start 0 with
      | (true, pos, _) =>
        refillLoop sd dir fuel (nextPlace s.n dir pos)
          (countBdp sd (fun c => { c with refillListings := bump c.refillListings })
            (listEntry sd pos none s))
      | _ => s
    else s

/-- A refill of a side, from the carriage's position in its direction (R64). A list of 64 places takes
at most 64 listings. -/
def refill (sd : Side) (s : State) : State :=
  let c := s.clc.get sd
  refillLoop sd c.direction listMax c.position s

/-! ### Dispatch (R66 to R71) -/

/-- The eligibility of a side, or the first unmet condition (R66, R72). -/
def eligibility (s : State) (sd : Side) : Eligibility :=
  let c := s.clc.get sd
  if c.state ≠ .ready ∨ c.record.isSome then .carriage
  else if s.ssc.tier ≠ .run then .tier
  else if s.pins.driveRun = false then .drive
  else if s.dsq.phase = .doffing ∨ s.dsq.phase = .restarting then .doff
  else .eligible

/-- The creel group of a side position holds its entries back: CHANGING or STALLED (R67). -/
def heldByCreel (s : State) (sd : Side) (pos : Nat) : Bool :=
  match s.group? (groupIndex s.n sd (sectionOf pos)) with
  | some g => g.state == .changing || g.state == .stalled
  | none => false

/-- An entry is held by its not-before stamp (R67). -/
def heldByStamp (now : Nat) (e : BreakEntry) : Bool :=
  match e.notBefore with
  | some t => now < t
  | none => false

/-- The hold mark of an entry (R67, R72). -/
def holdMark (s : State) (sd : Side) (e : BreakEntry) : HoldMark :=
  if heldByCreel s sd e.position then .creel
  else if heldByStamp s.flc.clock e then .stamp
  else .none

/-- The candidates of a side, in position order (R67). -/
def candidates (s : State) (sd : Side) : List BreakEntry :=
  (s.bdp.get sd).entries.filter (fun e => holdMark s sd e == .none)

/-- An entry is starved (R69). -/
def starvedEntry (s : State) (e : BreakEntry) : Bool :=
  s.conf.starveS * 1000 ≤ s.flc.clock - e.arrival

/-- The candidate ahead of p in a direction: the smallest position of p or more going UP, the largest
of p or less going DOWN (R70). The list is in ascending position order. -/
def ahead (dir : Dir) (p : Nat) (cands : List BreakEntry) : Option BreakEntry :=
  match dir with
  | .up => (cands.filter (fun e => p ≤ e.position)).head?
  | .down => (cands.filter (fun e => e.position ≤ p)).getLast?

/-- The opposite direction. -/
def Dir.flip : Dir → Dir
  | .up => .down
  | .down => .up

/-- The choice of the sweep, and whether the sweep reversed (R70). -/
def sweep (dir : Dir) (p : Nat) (cands : List BreakEntry) : Option (BreakEntry × Bool) :=
  match ahead dir p cands with
  | some e => some (e, false)
  | none => (ahead dir.flip p cands).map (fun e => (e, true))

/-- A choice of the next job: the entry, whether the sweep reversed, whether it was starved. -/
structure Choice where
  entry : BreakEntry
  reversed : Bool
  starved : Bool
  deriving DecidableEq, Repr

/-- The starved candidates that share the earliest arrival stamp (R69). -/
def starvedFirst (s : State) (cands : List BreakEntry) : List BreakEntry :=
  let starved := cands.filter (starvedEntry s)
  match (starved.map BreakEntry.arrival).min? with
  | some t => starved.filter (fun e => e.arrival == t)
  | none => []

/-- The choice among the candidates (R69, R70). -/
def choose (s : State) (sd : Side) : Option Choice :=
  let c := s.clc.get sd
  let cands := candidates s sd
  match starvedFirst s cands with
  | [] =>
    (sweep c.direction c.position cands).map fun x =>
      { entry := x.1, reversed := x.2, starved := false }
  | [e] => some { entry := e, reversed := false, starved := true }
  | es =>
    (sweep c.direction c.position es).map fun x =>
      { entry := x.1, reversed := x.2, starved := true }

/-- The direction of travel from p to x, keeping `dir` when they are equal (R71, step 3). -/
def travelDir (dir : Dir) (p x : Nat) : Dir :=
  if p < x then .up else if x < p then .down else dir

/-- The dispatch of a choice (R71; R32 in the table, R87 in the controller). -/
def dispatch (sd : Side) (ch : Choice) (s : State) : State :=
  let x := ch.entry.position
  let attempts := ((s.spindle? sd x).map Spindle.attempts).getD 0
  let s1 := unlistEntry sd x s
  let s2 := s1.modSpindle sd x (fun r => { r with state := .servicing, listed := false })
  let c := s2.clc.get sd
  let dir := if ch.reversed then c.direction.flip else c.direction
  let s3 := s2.setCar sd
    { c.startJob s2.n sd x (attempts + 1) s2.flc.clock s2.conf.pieceMaxS with
      direction := travelDir dir c.position x }
  let s4 := countBdp sd (fun k =>
    { k with
      dispatches := bump k.dispatches
      starved := if ch.starved then bump k.starved else k.starved
      reversals := if ch.reversed then bump k.reversals else k.reversals }) s3
  let s5 := recomputeWake sd s4
  if 0 < s5.unlisted sd then refill sd s5 else s5

/-- The examination of a side (R68). -/
def examine (sd : Side) (s : State) : State :=
  if eligibility s sd = .eligible then
    match choose s sd with
    | some ch => dispatch sd ch s
    | none => s
  else s

/-- The examination of both sides. -/
def examineBoth (s : State) : State := examine .R (examine .L s)

/-! ### Listing and removal (R61 to R63) -/

/-- A listing request of the Spindle Table (R29, R61, R62). -/
def listingRequest (sd : Side) (pos : Nat) (nb : Option Nat) (s : State) : State :=
  let b := s.bdp.get sd
  if b.entries.length < listMax then
    let s1 := listEntry sd pos nb s
    let s2 := if nb.any (fun t => s.flc.clock < t) then recomputeWake sd s1 else s1
    examine sd s2
  else
    let s1 := s.setBreaks sd { b with
      fullReported := true
      counts := { b.counts with overflows := bump b.counts.overflows } }
    if b.fullReported then s1 else raise .breaks true s1

/-- A removal notice (R63): the entry goes, the mark clears, the refill runs if it may, and the side
is examined once. -/
def removalNotice (sd : Side) (pos : Nat) (s : State) : State :=
  let s1 := recomputeWake sd (unlistEntry sd pos s)
  let s2 := if 0 < s1.unlisted sd then refill sd s1 else s1
  examine sd s2

/-- DOFF_START and a warm restart empty a side's list with its stamps and mark (R65, R74). -/
def Breaks.emptied (b : Breaks) : Breaks :=
  { b with entries := [], wake := none, fullReported := false }

/-- Empty both lists (R65, R74). -/
def emptyLists (s : State) : State :=
  s.setBdp { l := s.bdp.l.emptied, r := s.bdp.r.emptied }

/-- The side's wake stamp is reached: it is recomputed and the side examined (R68). -/
def wakeReached (sd : Side) (s : State) : State :=
  match (s.bdp.get sd).wake with
  | some t => if t ≤ s.flc.clock then examine sd (recomputeWake sd s) else s
  | none => s

end Sys2Proof.Machine
end

