-- ==== Sys2Proof/Machine/Production.lean ====
section
/-! DEFINITION. The Production Counter's own figures: the events reported to it, credits to lengths and
cops, efficiency, mass, and the cops of a doff (R44 to R57). -/

namespace Sys2Proof.Machine

open Sys2Proof.Config

/-! ### Events the Spindle Table reports (R42, R52, R55) -/

/-- Change the accumulators. -/
def countAcc (f : Accum → Accum) (s : State) : State :=
  s.setPcn { s.pcn with acc := f s.pcn.acc }

/-- Add to the delta's four figures; FRESH is set by an addition of more than zero (R55). -/
def Delta.add (d : Delta) (good slack breaks pieced : Nat) : Delta where
  goodMm := satAdd max32 d.goodMm good
  slackMm := satAdd max32 d.slackMm slack
  breaks := satAdd max32 d.breaks breaks
  pieced := satAdd max32 d.pieced pieced
  fresh := d.fresh || 0 < good + slack + breaks + pieced

/-- Add to the delta. -/
def addDelta (good slack breaks pieced : Nat) (s : State) : State :=
  s.setPcn { s.pcn with delta := s.pcn.delta.add good slack breaks pieced }

/-- A break is reported (R30, R52, R55). -/
def reportBreak (s : State) : State :=
  addDelta 0 0 1 0 (countAcc (fun a => { a with breaks := bump a.breaks }) s)

/-- A carriage piecing is reported (R35, R52, R55). -/
def reportCarriagePieced (s : State) : State :=
  addDelta 0 0 0 1 (countAcc (fun a => { a with carriagePieced := bump a.carriagePieced }) s)

/-- A tenter piecing is reported (R31, R52, R55). -/
def reportTenterPieced (s : State) : State :=
  addDelta 0 0 0 1 (countAcc (fun a => { a with tenterPieced := bump a.tenterPieced }) s)

/-- A counted failure is reported, with its false success when it is one (R34, R52). -/
def reportFailure (falseSuccess : Bool) (s : State) : State :=
  countAcc (fun a =>
    { a with
      countedFailures := bump a.countedFailures
      falseSuccesses := if falseSuccess then bump a.falseSuccesses else a.falseSuccesses }) s

/-- An entry to BLOCKED is reported (R34, R52). -/
def reportBlocked (s : State) : State :=
  countAcc (fun a => { a with blocked := bump a.blocked }) s

/-- A restart end-down is reported (R38, R52). -/
def reportRestartEndDown (s : State) : State :=
  countAcc (fun a => { a with restartEndDowns := bump a.restartEndDowns }) s

/-! ### Credits (R45 to R50) -/

/-- The whole millimetres of a delivery of F pulses at a section with a remainder (R45). -/
def creditWhole (frUm f remainder : Nat) : Nat := (remainder + f * frUm) / 1000

/-- The delivery record after a delivery of F pulses (R45). -/
def Delivery.credit (d : Delivery) (frUm f : Nat) : Delivery where
  cycle := satAdd max32 d.cycle (creditWhole frUm f d.remainder)
  remainder := (d.remainder + f * frUm) % 1000

/-- A producing state: RUNNING or SLACK (R47, R50). -/
def SpindleState.producing : SpindleState → Bool
  | .running => true
  | .slack => true
  | _ => false

/-- The cop of one spindle in an observed credit, capped at the new cycle length (R47). -/
def Spindle.creditCop (r : Spindle) (whole cycle : Nat) : Spindle :=
  if r.state.producing then { r with cop := min (r.cop + whole) cycle } else r

/-- The spindles of a section in a state (R48). -/
def countState (rs : List Spindle) (st : SpindleState) : Nat :=
  rs.countP (fun r => r.state == st)

/-- Apply f to every record of a section. -/
def State.mapSection (s : State) (sd : Side) (section_ : Nat) (f : Spindle → Spindle) : State :=
  (sectionPositions section_).foldl (fun t pos => t.modSpindle sd pos f) s

/-- The arithmetic of R45 on the section's delivery record. -/
def creditSection (sd : Side) (section_ f : Nat) (s : State) : State :=
  s.setPcn { s.pcn with
    deliveries := s.pcn.deliveries.set sd
      (updAt (fun d => d.credit s.conf.frUm f) (section_ - 1) (s.pcn.deliveries.get sd)) }

/-- The observed credit's figures: cops, shift lengths and delta (R47, R48). -/
def creditObserved (sd : Side) (section_ whole cycle : Nat) (s : State) : State :=
  let s1 := s.mapSection sd section_ (fun r => r.creditCop whole cycle)
  let rs := s1.sectionSpindles sd section_
  let g := whole * countState rs .running
  let k := whole * countState rs .slack
  addDelta g k 0 0
    (countAcc (fun a => { a with good := a.good.add g, slack := a.slack.add k }) s1)

/-- The unobserved credit's figure (R49). -/
def creditUnobserved (whole : Nat) (s : State) : State :=
  countAcc (fun a => { a with unobserved := a.unobserved.add whole }) s

/-- The efficiency tallies of a referenced read (R50). -/
def tallyEfficiency (sd : Side) (section_ : Nat) (s : State) : State :=
  let rs := s.sectionSpindles sd section_
  countAcc (fun a =>
    { a with
      possible := satAdd max64 a.possible (rs.countP (fun r => r.state != .sensorFault))
      running := satAdd max64 a.running (rs.countP (fun r => r.state.producing)) }) s

/-! ### Computed figures (R51, R53) -/

/-- Efficiency in permille (R51). -/
def Accum.efficiency (a : Accum) : Nat :=
  if a.possible = 0 then 0 else 1000 * a.running / a.possible

/-- The mass in grams of a length in whole metres (R53). -/
def massOf (texX10 m : Nat) : Nat := min (m * texX10 / 10000) max32

/-- The accumulators after a close: everything 0 but the millimetre remainders (R54). The start stamp
is written by the Shift Tally Unit. -/
def Accum.closed (a : Accum) : Accum :=
  { Accum.zero with
    good := ⟨0, a.good.mm⟩
    slack := ⟨0, a.slack.mm⟩
    unobserved := ⟨0, a.unobserved.mm⟩
    copSum := ⟨0, a.copSum.mm⟩
    shiftStart := a.shiftStart }

/-! ### The cops of a doff (R56, R57) -/

/-- Take one cop into the accumulators (R56). -/
def Accum.takeCop (a : Accum) (limit cop : Nat) : Accum :=
  if 0 < cop then
    { a with
      copsDoffed := bump a.copsDoffed
      copSum := a.copSum.add cop
      shortCops := if cop < limit then bump a.shortCops else a.shortCops }
  else a

/-- DOFF_START at the Production Counter: the cops are taken in spindle order, then every cop and
every cycle length becomes 0 and the doff is counted (R56, R57). -/
def doffStartProduction (s : State) : State :=
  let all := s.spt.spindles.l ++ s.spt.spindles.r
  let acc := all.foldl (fun a r => a.takeCop (900 * s.conf.doffTargetM) r.cop) s.pcn.acc
  let s1 := s.setSpt { s.spt with
    spindles :=
      { l := s.spt.spindles.l.map (fun r => { r with cop := 0 })
        r := s.spt.spindles.r.map (fun r => { r with cop := 0 }) } }
  s1.setPcn { s.pcn with
    acc := { acc with doffs := bump acc.doffs }
    deliveries :=
      { l := s.pcn.deliveries.l.map (fun d => { d with cycle := 0 })
        r := s.pcn.deliveries.r.map (fun d => { d with cycle := 0 }) } }

end Sys2Proof.Machine
end

