-- ==== Sys2Proof/Machine/Spindles.lean ====
section
/-! DEFINITION. The Spindle Table: every transition of a spindle record and its causes (R26 to R39). -/

namespace Sys2Proof.Machine

open Sys2Proof.Config

/-- Put a record into a state that is not BROKEN; it is then not listed, and its verify count is 0
(R24, R29). -/
def Spindle.into (r : Spindle) (st : SpindleState) : Spindle :=
  { r with state := st, listed := false, verify := 0 }

/-- Move a record into a state. -/
def moveSpindle (sd : Side) (pos : Nat) (st : SpindleState) (s : State) : State :=
  s.modSpindle sd pos (fun r => r.into st)

/-- Set a record's attempts. -/
def setAttempts (sd : Side) (pos : Nat) (n : Nat) (s : State) : State :=
  s.modSpindle sd pos (fun r => { r with attempts := n })

/-- A spindle enters BROKEN: the listing request follows in the same event (R29). -/
def enterBroken (sd : Side) (pos : Nat) (nb : Option Nat) (s : State) : State :=
  listingRequest sd pos nb (moveSpindle sd pos .broken s)

/-- The not-before stamp of a retry: floor time now and the retry gap (R33, R34). -/
def retryStamp (s : State) : Nat := s.flc.clock + s.conf.retryGapS * 1000

/-- The frame group index of a side position (R102). -/
def groupOf (s : State) (sd : Side) (pos : Nat) : Nat := groupIndex s.n sd (sectionOf pos)

/-! ### Quality (R27, R28) -/

/-- A spindle enters SENSOR_FAULT (R27). -/
def enterSensorFault (sd : Side) (pos : Nat) (r : Spindle) (s : State) : State :=
  let s1 := moveSpindle sd pos .sensorFault s
  let s2 := s1.setSpt { s1.spt with sensorFaults := bump s1.spt.sensorFaults }
  let s3 := raise .sensor false s2
  match r.state with
  | .broken => if r.listed then removalNotice sd pos s3 else s3
  | .servicing => s3.setCar sd ((s3.clc.get sd).abortSpindle pos)
  | .rovingOut => outFall (groupOf s3 sd pos) 1 s3
  | _ => s3

/-- A spindle leaves SENSOR_FAULT for UNKNOWN (R28). -/
def leaveSensorFault (sd : Side) (pos : Nat) (s : State) : State :=
  s.modSpindle sd pos (fun r =>
    { r.into .unknown with breakCount := 0, slackCount := 0, goodCount := 0, attempts := 0 })

/-! ### Failures and piecings (R30, R31, R34, R35) -/

/-- A counted failure (R34). -/
def countedFailure (sd : Side) (pos : Nat) (falseSuccess : Bool) (s : State) : State :=
  let n := ((s.spindle? sd pos).map Spindle.attempts).getD 0 + 1
  let s1 := reportFailure falseSuccess (setAttempts sd pos n s)
  if n < s1.conf.pieceTries then enterBroken sd pos (some (retryStamp s1)) s1
  else raise .blocked false (reportBlocked (moveSpindle sd pos .blocked s1))

/-- A break is declared (R30). -/
def declareBreak (sd : Side) (pos : Nat) (s : State) : State :=
  enterBroken sd pos none (reportBreak s)

/-- A spindle moves into a state with its attempts 0 (R30, R31, R35, R38). -/
def settleSpindle (sd : Side) (pos : Nat) (st : SpindleState) (s : State) : State :=
  setAttempts sd pos 0 (moveSpindle sd pos st s)

/-- A restoration from BROKEN, BLOCKED or ROVING_OUT (R31). -/
def restore (sd : Side) (pos : Nat) (r : Spindle) (s : State) : State :=
  let s1 := settleSpindle sd pos .running s
  match r.state with
  | .rovingOut => outFall (groupOf s1 sd pos) 1 s1
  | .broken =>
    let s2 := reportTenterPieced s1
    if r.listed then removalNotice sd pos s2 else s2
  | _ => reportTenterPieced s1

/-- A read of a VERIFYING spindle (R35). -/
def verifyRead (sd : Side) (pos : Nat) (r : Spindle) (s : State) : State :=
  if 1 ≤ r.goodCount then reportCarriagePieced (settleSpindle sd pos .running s)
  else if s.conf.verifyPasses ≤ r.verify + 1 then countedFailure sd pos true s
  else s.modSpindle sd pos (fun x => { x with verify := x.verify + 1 })

/-! ### Judgement (R26) -/

/-- The evidence check of one spindle (R26, R30, R31, R35). -/
def judgeEvidence (sd : Side) (pos : Nat) (r : Spindle) (s : State) : State :=
  let c := s.conf
  match r.state with
  | .unknown =>
    if c.breakConfirm ≤ r.breakCount then declareBreak sd pos s
    else if c.slackConfirm ≤ r.slackCount then settleSpindle sd pos .slack s
    else if c.restorePasses ≤ r.goodCount then settleSpindle sd pos .running s
    else s
  | .running =>
    if c.breakConfirm ≤ r.breakCount then declareBreak sd pos s
    else if c.slackConfirm ≤ r.slackCount then settleSpindle sd pos .slack s
    else s
  | .slack =>
    if c.breakConfirm ≤ r.breakCount then declareBreak sd pos s
    else if c.restorePasses ≤ r.goodCount then settleSpindle sd pos .running s
    else s
  | .broken => if c.restorePasses ≤ r.goodCount then restore sd pos r s else s
  | .blocked => if c.restorePasses ≤ r.goodCount then restore sd pos r s else s
  | .rovingOut => if c.restorePasses ≤ r.goodCount then restore sd pos r s else s
  | .verifying => verifyRead sd pos r s
  | _ => s

/-- The judgement of one spindle at a referenced read: quality, then evidence (R26). -/
def judgeSpindle (sd : Side) (s : State) (pos : Nat) : State :=
  match s.spindle? sd pos with
  | some r =>
    if r.state = .sensorFault then
      if s.conf.qualPasses ≤ r.goodRun then leaveSensorFault sd pos s else s
    else if s.conf.qualPasses ≤ r.lowRun then enterSensorFault sd pos r s
    else judgeEvidence sd pos r s
  | none => s

/-- The judgement of a section's spindles, in ascending position order (R26). -/
def judgeSection (sd : Side) (section_ : Nat) (s : State) : State :=
  (sectionPositions section_).foldl (judgeSpindle sd) s

/-! ### Outcomes (R33) -/

/-- The Spindle Table acts on an outcome for a SERVICING spindle (R33); it ignores any other. -/
def tableOutcome (sd : Side) (pos : Nat) (k : Outcome) (s : State) : State :=
  if (s.spindle? sd pos).map Spindle.state = some .servicing then
    match k with
    | .pieced => moveSpindle sd pos .verifying s
    | .noRoving => outRise (groupOf s sd pos) (moveSpindle sd pos .rovingOut s)
    | .obstructed => enterBroken sd pos (some (retryStamp s)) s
    | .aborted => enterBroken sd pos none s
    | .fault => enterBroken sd pos none s
    | .noEnd => countedFailure sd pos false s
    | .twistFail => countedFailure sd pos false s
    | .spindleStopped => countedFailure sd pos false s
    | .timeout => countedFailure sd pos false s
  else s

/-! ### Causes from outside the scan (R36 to R39, R43) -/

/-- TENTER_CLEAR of a BLOCKED spindle (R36). -/
def tenterClear (sd : Side) (pos : Nat) (s : State) : State :=
  enterBroken sd pos none (setAttempts sd pos 0 s)

/-- DOFF_START at one record (R37). -/
def Spindle.doffStart (r : Spindle) : Spindle :=
  match r.state with
  | .running => { r.into .doffWait with attempts := 0 }
  | .slack => { r.into .doffWait with attempts := 0 }
  | .broken => { r.into .doffWait with attempts := 0 }
  | .servicing => { r.into .doffWait with attempts := 0 }
  | .verifying => { r.into .doffWait with attempts := 0 }
  | .unknown => { r.into .doffWait with attempts := 0 }
  | _ => r

/-- Apply f to every record of the table. -/
def mapSpindles (f : Spindle → Spindle) (s : State) : State :=
  s.setSpt { s.spt with
    spindles := { l := s.spt.spindles.l.map f, r := s.spt.spindles.r.map f } }

/-- The restart notice at one record (R38). -/
def Spindle.restartNotice (r : Spindle) : Spindle :=
  match r.state with
  | .doffWait => { r with ratio := none, breakCount := 0, slackCount := 0, goodCount := 0 }
  | _ => r

/-- The restart judgement of kind COMPLETE at one record (R38). -/
def judgeRestart (sd : Side) (s : State) (pos : Nat) : State :=
  match s.spindle? sd pos with
  | some r =>
    if r.state = .doffWait then
      if r.ratio.isNone then settleSpindle sd pos .unknown s
      else if 1 ≤ r.goodCount then settleSpindle sd pos .running s
      else enterBroken sd pos none (setAttempts sd pos 0 (reportRestartEndDown s))
    else s
  | none => s

/-- The restart judgement of kind LIMIT at one record (R38). -/
def Spindle.restartLimit (r : Spindle) : Spindle :=
  match r.state with
  | .doffWait => { r.into .unknown with attempts := 0 }
  | _ => r

/-- The restart judgement (R38): COMPLETE in position order, side L first, or LIMIT. -/
def restartJudgement (complete : Bool) (s : State) : State :=
  if complete then
    let s1 := (List.range s.n).foldl (judgeRestart .L) s
    (List.range s1.n).foldl (judgeRestart .R) s1
  else mapSpindles Spindle.restartLimit s

/-- A renewal reaches one record: a ROVING_OUT spindle becomes BROKEN (R39). -/
def renewSpindle (sd : Side) (s : State) (pos : Nat) : State :=
  if (s.spindle? sd pos).map Spindle.state = some .rovingOut then
    enterBroken sd pos none (setAttempts sd pos 0 s)
  else s

/-- A group's roving has been renewed: its ROVING_OUT spindles are given back together, in position
order, and the group's out count falls by their number (R39, R102). -/
def renewGroupSpindles (index : Nat) (s : State) : State :=
  let p := groupPlace s.n index
  let out := countState (s.sectionSpindles p.1 p.2) .rovingOut
  let s1 := outFall index out s
  (sectionPositions p.2).foldl (renewSpindle p.1) s1

/-- A warm restart at one record (R43). -/
def Spindle.warmRestart (r : Spindle) : Spindle :=
  { r with
    state :=
      match r.state with
      | .blocked => .blocked
      | .rovingOut => .rovingOut
      | .sensorFault => .sensorFault
      | _ => .unknown
    listed := false
    breakCount := 0
    slackCount := 0
    goodCount := 0
    verify := 0 }

/-- A record as CONFIGURE creates it (R43). -/
def Spindle.fresh : Spindle where
  state := .unknown
  listed := false
  breakCount := 0
  slackCount := 0
  goodCount := 0
  lowRun := 0
  goodRun := 0
  attempts := 0
  verify := 0
  ratio := none
  traveller := 0
  cop := 0

/-! ### The copied record (2.6.1) -/

/-- The code of a state (R25). -/
def SpindleState.code : SpindleState → Nat
  | .unknown => 0
  | .running => 1
  | .slack => 2
  | .broken => 3
  | .servicing => 4
  | .verifying => 5
  | .blocked => 6
  | .rovingOut => 7
  | .doffWait => 8
  | .sensorFault => 9

/-- The states in the order of their codes (R25). -/
def allSpindleStates : List SpindleState :=
  [.unknown, .running, .slack, .broken, .servicing, .verifying, .blocked, .rovingOut, .doffWait,
   .sensorFault]

/-- The 19 bytes of a copied record (2.6.1). -/
def Spindle.copyBytes (r : Spindle) (number : Nat) : List Byte :=
  beBytes 2 number ++ beBytes 1 r.state.code ++ beBytes 1 (if r.listed then 1 else 0) ++
    beBytes 1 r.breakCount ++ beBytes 1 r.slackCount ++ beBytes 1 r.goodCount ++
    beBytes 1 r.lowRun ++ beBytes 1 r.goodRun ++ beBytes 1 r.attempts ++
    beBytes 1 (if r.state = .verifying then r.verify else 0) ++
    beBytes 2 (r.ratio.getD 65535) ++ beBytes 2 r.traveller.toNat ++ beBytes 4 r.cop

end Sys2Proof.Machine
end

