-- ==== Sys2Proof/Machine/Jobs.lean ====
section
/-! DEFINITION. The Carriage Link Controllers: outcomes, answers, silence, parking, connecting and
releasing (R75 to R98). -/

namespace Sys2Proof.Machine

open Sys2Proof.Config

/-- Change one carriage context. -/
def modCar (sd : Side) (f : Carriage → Carriage) (s : State) : State :=
  s.setCar sd (f (s.clc.get sd))

/-! ### Outcomes (R88, R89) -/

/-- A job or record that has left the context ends with an outcome: it joins the outcome set, is
counted, and goes to the Spindle Table (R88, R89). -/
def reportTo (sd : Side) (pos : Nat) (k : Outcome) (s : State) : State :=
  tableOutcome sd pos k (modCar sd (fun c =>
    { c.addOutcome k pos s.flc.clock .reported with counts := c.counts.report k }) s)

/-- The job ends with an outcome (R88). -/
def endJob (sd : Side) (k : Outcome) (s : State) : State :=
  match (s.clc.get sd).job with
  | some j => reportTo sd j.position k (modCar sd Carriage.dropJob s)
  | none => s

/-- The resume record ends with an outcome (R88). -/
def endRecord (sd : Side) (k : Outcome) (s : State) : State :=
  match (s.clc.get sd).record with
  | some r => reportTo sd r.position k (modCar sd (fun c => { c with record := none }) s)
  | none => s

/-- A new DONE report is taken (R78, R88): the state the context had when the job ended decides whether
it becomes READY. -/
def takeReport (sd : Side) (d : DoneReport) (s : State) : State :=
  let c := s.clc.get sd
  if c.lastReport = some d.number then s
  else
    let s1 := modCar sd (fun c => { c with lastReport := some d.number }) s
    if c.job.any (fun j => j.position == d.position) then
      let s2 := endJob sd d.outcome s1
      if c.eff = .dispatched then modCar sd (fun c => c.setEff .ready) s2 else s2
    else if c.record.any (fun r => r.position == d.position) then endRecord sd d.outcome s1
    else
      modCar sd (fun c =>
        { c.addOutcome d.outcome d.position s.flc.clock .recorded with
          counts := { c.counts with stray := bump c.counts.stray } }) s1

/-! ### Silence and faults (R81 to R83) -/

/-- The entry to LOST (R83). -/
def enterLost (sd : Side) (s : State) : State :=
  let s1 := endRecord sd .aborted (endJob sd .aborted s)
  let s2 := modCar sd (fun c =>
    { c with
      state := .lost, held := none, stage := 0, outstanding := none, silenceTimer := none
      counts := { c.counts with lost := bump c.counts.lost } }) s1
  raise .carriage true s2

/-- The entry to SUSPECT with its CARRIAGE event (R81, R82). -/
def suspectCarriage (sd : Side) (s : State) : State :=
  raise .carriage false (modCar sd Carriage.enterSuspect s)

/-- A FAULT answer acts by the context's state (R82) (DEDUCED, notes/assumptions/15.md). A READY context
whose job ends so can be dispatched anew by the relisting before it enters SUSPECT (DESIGN CHOICE,
notes/assumptions/33.md). -/
def faultAnswer (sd : Side) (code : Byte) (s : State) : State :=
  let s1 := modCar sd (fun c => c.noteFault code) s
  if (s.clc.get sd).state = .suspect then s1
  else suspectCarriage sd (endJob sd .fault s1)

/-- The silence timer expires (R81, R86) (DEDUCED, notes/assumptions/19.md). -/
def silenceExpiry (sd : Side) (s : State) : State :=
  let c := s.clc.get sd
  match c.silenceTimer with
  | none => s
  | some _ =>
    match c.state with
    | .disconnected => modCar sd Carriage.endRelease s
    | .lost => modCar sd (fun c => { c with silenceTimer := none }) s
    | .suspect => enterLost sd s
    | _ => suspectCarriage sd s

/-! ### Becoming READY (R68, R96) -/

/-- A context becomes READY from PARKED: it first serves its resume record (R96). -/
def readyFromParked (sd : Side) (s : State) : State :=
  let c := s.clc.get sd
  match c.record with
  | none => modCar sd (fun c => c.setEff .ready) s
  | some r =>
    if (s.spindle? sd r.position).map Spindle.state = some .servicing then
      modCar sd (fun c =>
        let c1 := (c.issue (.goPiece r.position r.attempt)).setEff .dispatched
        { c1 with
          record := none
          direction := r.direction
          job := some
            { spindle := r.spindle, position := r.position, attempt := r.attempt
              stamp := s.flc.clock, seen := none }
          jobTimer := some (ms s.conf.pieceMaxS)
          counts := { c1.counts with resumptions := bump c1.counts.resumptions } }) s
    else modCar sd (fun c => { c.setEff .ready with record := none }) s

/-! ### The status of an answer, by state (R78, R84, R90, R95) -/

/-- In DISPATCHED (R90). -/
def statusDispatched (sd : Side) (st : CarStatus) (s : State) : State :=
  let c := s.clc.get sd
  match st with
  | .moving => modCar sd (fun c => { c with job := c.job.map fun j => { j with seen := some .moving } }) s
  | .piecing => modCar sd (fun c => { c with job := c.job.map fun j => { j with seen := some .piecing } }) s
  | .idle =>
    match c.job, c.outstanding with
    | none, _ => modCar sd (fun c => c.dropAbandon.setEff .ready) s
    | some _, some { kind := .goPiece _ _, number := _ } => s
    | some _, _ =>
      let s1 := endJob sd .aborted s
      modCar sd (fun c =>
        { c.setEff .ready with counts := { c.counts with dropped := bump c.counts.dropped } }) s1
  | .parked => modCar sd Carriage.enterParked (endJob sd .aborted s)
  | .fault _ => s

/-- In PARKING (R95). -/
def statusParking (sd : Side) (st : CarStatus) (s : State) : State :=
  match st with
  | .parked => modCar sd Carriage.enterParked s
  | .idle => modCar sd (fun c => if c.outstandingIs .park then c else c.issue .park) s
  | _ => s

/-- In PARKED (R95). -/
def statusParked (sd : Side) (st : CarStatus) (s : State) : State :=
  let c := s.clc.get sd
  let left := fun (c : Carriage) =>
    (if c.outstandingIs .park then c else c.issue .park).setEff .parking
  match st with
  | .idle =>
    if c.resumeTaken then readyFromParked sd s
    else if c.demand then modCar sd left s
    else readyFromParked sd s
  | .moving => if c.demand && !c.resumeTaken then modCar sd left s else s
  | .piecing => if c.demand && !c.resumeTaken then modCar sd left s else s
  | _ => s

/-- In READY (R78). -/
def statusReady (sd : Side) (st : CarStatus) (s : State) : State :=
  match st with
  | .parked => modCar sd Carriage.enterParked s
  | _ => s

/-- The status is acted on by the rule of the context's state (R78, step 3). -/
def actStatus (sd : Side) (st : CarStatus) (s : State) : State :=
  match st with
  | .fault code => faultAnswer sd code s
  | _ =>
    match (s.clc.get sd).eff with
    | .ready => statusReady sd st s
    | .dispatched => statusDispatched sd st s
    | .parking => statusParking sd st s
    | .parked => statusParked sd st s
    | _ => s

/-- The answer that takes the CONNECT completes the connection (R84) (DESIGN CHOICE,
notes/assumptions/27.md). -/
def completeConnection (sd : Side) (a : CarAnswer) (s : State) : State :=
  modCar sd (fun c =>
    let c1 :=
      { c with
        position := min a.place (s.n - 1)
        lastReport := a.report.map DoneReport.number }
    if a.status = .parked then c1.enterParked
    else if c1.demand then (c1.issue .park).setEff .parking
    else c1.setEff .ready) s

/-- Settle the outstanding order against the taken number (R77); a RESUME taken in PARKED is marked
(R95). -/
def Carriage.settleOrder (c : Carriage) (taken : Byte) : Carriage :=
  match c.outstanding with
  | some o =>
    if o.number = taken then
      { c with
        outstanding := none
        resumeTaken := c.resumeTaken || (o.kind == .resume && c.eff == .parked) }
    else c
  | none => c

/-- The order kind that an answer takes (R77). -/
def Carriage.takes (c : Carriage) (taken : Byte) : Option OrderKind :=
  match c.outstanding with
  | some o => if o.number = taken then some o.kind else none
  | none => none

/-- An answer in CONNECTING (R84): the CONNECT taken completes the connection; the PARK of a warm
restart taken issues CONNECT; a FAULT acts otherwise (R82) (DEDUCED, notes/assumptions/15.md). -/
def answerConnecting (sd : Side) (took : Option OrderKind) (a : CarAnswer) (s : State) : State :=
  if took = some .connect then completeConnection sd a s
  else
    let s1 := if took = some .park then modCar sd (fun c => c.issue .connect) s else s
    match a.status with
    | .fault code => faultAnswer sd code s1
    | _ => s1

/-- An answer in READY, DISPATCHED, PARKING, PARKED or SUSPECT: position, report, status (R78). -/
def answerConnected (sd : Side) (a : CarAnswer) (s : State) : State :=
  let s1 := modCar sd (fun c =>
    { c with position := clampPosition s.n c.position (signed16 a.place) }) s
  let s2 :=
    match a.report with
    | some d => takeReport sd d s1
    | none => s1
  actStatus sd a.status s2

/-- A valid answer acts on the context (R78, R81 to R84, R86). -/
def actAnswer (sd : Side) (a : CarAnswer) (s : State) : State :=
  let c0 := s.clc.get sd
  let took := c0.takes a.taken
  let s1 := modCar sd (fun c => c.settleOrder a.taken) s
  match c0.state with
  | .disconnected => if took = some .release then modCar sd Carriage.endRelease s1 else s1
  | .lost =>
    match a.status with
    | .fault code => modCar sd (fun c => c.noteFault code) s1
    | _ => modCar sd Carriage.enterConnecting s1
  | _ =>
    let s2 :=
      if a.sound then
        modCar sd (fun c => { c.endSuspect with silenceTimer := some silenceMs }) s1
      else s1
    if (s2.clc.get sd).eff = .connecting then answerConnecting sd took a s2
    else answerConnected sd a s2

/-- A context that has become READY makes the dispatcher examine the side (R68, R84, R88, R90)
(DEDUCED, notes/assumptions/13.md). -/
def examineIfReady (sd : Side) (before : CarState) (s : State) : State :=
  if before ≠ .ready ∧ (s.clc.get sd).state = .ready then examine sd s else s

/-- The bytes of an answer arrive (R75): outside an exchange they are discarded; an incomplete
or bad answer leaves the exchange unanswered. The answer is its first 11 bytes: those after them come
after the exchange has completed, and are discarded. -/
def carriageAnswer (sd : Side) (bytes : List Byte) (s : State) : State :=
  let c := s.clc.get sd
  match c.exchange with
  | none => s
  | some _ =>
    match parseCarAnswer (bytes.take 11) with
    | none => modCar sd Carriage.unanswered s
    | some a => examineIfReady sd c.state (actAnswer sd a (modCar sd Carriage.endExchange s))

/-! ### The job timer (R91) -/

/-- The job ends by the station, and in DISPATCHED ABANDON is issued and the context is left draining
(R91, R92): the state the context had when the job ended decides. -/
def abandonJob (sd : Side) (k : Outcome) (s : State) : State :=
  let s1 := endJob sd k s
  if (s.clc.get sd).eff = .dispatched then modCar sd (fun c => c.issue .abandon) s1 else s1

/-- The job timer expires (R91). -/
def jobExpiry (sd : Side) (s : State) : State :=
  match (s.clc.get sd).jobTimer with
  | none => s
  | some _ => abandonJob sd .timeout s

/-! ### Causes from outside the link (R92, R94, R95) -/

/-- A group of the side enters CHANGING (R92). -/
def creelChangeAbort (sd : Side) (section_ : Nat) (s : State) : State :=
  let c := s.clc.get sd
  let inGroup := fun (pos : Nat) => sectionOf pos == section_
  if c.job.any (fun j => inGroup j.position) then abandonJob sd .aborted s
  else if c.record.any (fun r => inGroup r.position) then endRecord sd .aborted s
  else s

/-- Both controllers are told to park with suspension (R10, R93). -/
def parkBoth (s : State) : State := modCar .R Carriage.tierPark (modCar .L Carriage.tierPark s)

/-- Both controllers are told to resume by the scanner (R11, R95). -/
def tierResumeBoth (s : State) : State :=
  modCar .R Carriage.tierResume (modCar .L Carriage.tierResume s)

/-- Both controllers are told to resume by the sequencer (R95, R160). -/
def doffResumeBoth (s : State) : State :=
  modCar .R Carriage.doffResume (modCar .L Carriage.doffResume s)

/-- DOFF_START reaches both controllers (R94). -/
def doffParkBoth (s : State) : State :=
  modCar .R Carriage.doffPark (modCar .L Carriage.doffPark s)

/-! ### Connect and release (R85, R86) -/

/-- A side is fitted under CARRIAGES (R180). -/
def fitted (c : Cfg) (sd : Side) : Bool :=
  match sd with
  | .L => c.carriages == 1 || c.carriages == 3
  | .R => c.carriages == 2 || c.carriages == 3

/-- The exchange timer is started and the context enters CONNECTING (R84, R85). -/
def connectCarriage (sd : Side) (s : State) : State :=
  modCar sd (fun c => { c.enterConnecting with exchangeTimer := some exchangeMs }) s

/-- A release (R86): job and record end with ABORTED, RELEASE is issued, and the context is
DISCONNECTED. A READY context whose job ends so can be dispatched anew by the relisting before it is
released (DESIGN CHOICE, notes/assumptions/33.md). -/
def releaseCarriage (sd : Side) (s : State) : State :=
  let s1 := endRecord sd .aborted (endJob sd .aborted s)
  modCar sd (fun c =>
    { c.issue .release with
      state := .disconnected, held := none, stage := 0, silenceTimer := some silenceMs }) s1

/-! ### The commands -/

/-- EXCHANGE_TIMER_EXPIRY (R75). -/
def execExchangeTimerExpiry (sd : Side) (s : State) : Host.Outcome State Fault Refusal :=
  .next (modCar sd Carriage.exchangeNow s)

/-- CARRIAGE_ANSWER (R75, R78). -/
def execCarriageAnswer (sd : Side) (bytes : List Byte) (s : State) :
    Host.Outcome State Fault Refusal :=
  .next (carriageAnswer sd bytes s)

/-- CARRIAGE_ANSWER_TIMEOUT (R75). -/
def execCarriageAnswerTimeout (sd : Side) (s : State) : Host.Outcome State Fault Refusal :=
  .next (modCar sd Carriage.unanswered s)

/-- SILENCE_TIMER_EXPIRY (R81). -/
def execSilenceTimerExpiry (sd : Side) (s : State) : Host.Outcome State Fault Refusal :=
  .next (silenceExpiry sd s)

/-- JOB_TIMER_EXPIRY (R91). -/
def execJobTimerExpiry (sd : Side) (s : State) : Host.Outcome State Fault Refusal :=
  .next (jobExpiry sd s)

end Sys2Proof.Machine
end

