-- ==== Sys2Proof/Machine/Doffing.lean ====
section
/-! DEFINITION. The Doff Sequencer: doff progress, the phases, overfull, the doff and the restart
evaluation (R147 to R164). -/

namespace Sys2Proof.Machine

open Sys2Proof.Config

/-! ### The levels (R147) -/

/-- The prewarn level, mm. -/
def prewarnLevel (c : Cfg) : Nat := (c.doffTargetM - c.doffLeadM) * 1000

/-- The due level, mm. -/
def dueLevel (c : Cfg) : Nat := c.doffTargetM * 1000

/-- The overfull level, mm. -/
def overfullLevel (c : Cfg) : Nat := (c.doffTargetM + c.doffOverrunM) * 1000

/-- The phases in which the overfull test is made (R150, R155). -/
def Phase.atTarget : Phase → Bool
  | .due => true
  | .claiming => true
  | .holding => true
  | _ => false

/-- Change the counts of R162. -/
def countDsq (f : DsqCounts → DsqCounts) (s : State) : State :=
  s.setDsq { s.dsq with counts := f s.dsq.counts }

/-! ### Toward the target (R150 to R152, R155) -/

/-- The entry to DUE, without the claim (R152); the exit from PREWARN drops the basis and the
expected due stamp (R151). -/
def enterDue (s : State) : State :=
  let s1 := s.setDsq { s.dsq with
    phase := .due
    due := some s.flc.clock
    basis := none
    expected := none }
  countDsq (fun c => { c with dues := bump c.dues }) (raise .doff false s1)

/-- The entry to PREWARN, which records the basis (R150, R151). -/
def enterPrewarn (s : State) : State :=
  let s1 := s.setDsq { s.dsq with
    phase := .prewarn
    basis := some (s.flc.clock, s.dsq.progress) }
  countDsq (fun c => { c with prewarnings := bump c.prewarnings }) (raise .doff false s1)

/-- The expected due stamp formed from a basis (R151). -/
def expectedDue (level now progress : Nat) (basis : Nat × Nat) : Nat :=
  min (now + (level - progress) * (now - basis.1) / (progress - basis.2)) max48

/-- The expected due stamp is formed again where progress and time have both grown (R151). -/
def formExpected (s : State) : State :=
  match s.dsq.basis with
  | some b =>
    if b.2 < s.dsq.progress ∧ b.1 < s.flc.clock then
      s.setDsq { s.dsq with
        expected := some (expectedDue (dueLevel s.conf) s.flc.clock s.dsq.progress b) }
    else s
  | none => s

/-- Step 1 of the evaluation: the levels (R150). -/
def evaluateLevel (s : State) : State :=
  match s.dsq.phase with
  | .spinning =>
    if dueLevel s.conf ≤ s.dsq.progress then enterDue s
    else if prewarnLevel s.conf ≤ s.dsq.progress then enterPrewarn s
    else s
  | .prewarn =>
    if dueLevel s.conf ≤ s.dsq.progress then enterDue s else formExpected s
  | _ => s

/-- The frame becomes overfull (R155). -/
def becomeOverfull (s : State) : State :=
  let s1 := s.setDsq { s.dsq with overfull := true, stopReq := true }
  let s2 := countDsq (fun c => { c with overfulls := bump c.overfulls }) (raise .doff true s1)
  if s2.dsq.phase = .holding then handHoldUrgency s2 else s2

/-- Step 2 of the evaluation: the overfull test (R150, R155). -/
def overfullTest (s : State) : State :=
  if s.dsq.phase.atTarget ∧ overfullLevel s.conf ≤ s.dsq.progress ∧ s.dsq.overfull = false then
    becomeOverfull s
  else s

/-- The claim is started from DUE when the link sends (R150, R152, R161). -/
def claimIfDue (s : State) : State :=
  if s.dsq.phase = .due ∧ s.flc.link.sends then startDoffClaim s else s

/-- A credit hands the sequencer a section's new cycle length: doff progress is brought up to date
and the phase is evaluated in its three steps (R147, R150). -/
def creditProgress (cycle : Nat) (s : State) : State :=
  claimIfDue (overfullTest (evaluateLevel
    (s.setDsq { s.dsq with progress := max s.dsq.progress cycle })))

/-! ### Forcing a doff (R161) -/

/-- The phases in which FORCE_DOFF is served (R161). -/
def Phase.forceable : Phase → Bool
  | .spinning => true
  | .prewarn => true
  | _ => false

/-- FORCE_DOFF where it is served (R161). -/
def forceDoff (s : State) : State :=
  claimIfDue (countDsq (fun c => { c with forced := bump c.forced }) (enterDue s))

/-! ### The doff (R139, R156 to R158) -/

/-- The entry to DOFFING (R156): DOFF_START reaches the carriages, the table, the counter and the
dispatcher. -/
def enterDoffing (s : State) : State :=
  let s1 := s.setDsq { s.dsq with
    phase := .doffing, due := none, doffGo := true, stopReq := false, progress := 0 }
  let s2 := emptyLists (doffStartProduction (mapSpindles Spindle.doffStart (doffParkBoth s1)))
  let s3 := raise .doff false s2
  s3.setDsq { s3.dsq with
    doffTimer := some doffMs
    longDoff := false
    counts := { s3.dsq.counts with started := bump s3.dsq.counts.started } }

/-- The doff claim window expires (R139): won below DOFF_LIMIT, else a yield. -/
def doffWindowExpiry (s : State) : State :=
  match s.bcu.doff with
  | some r =>
    if s.dCount r.urgency < s.conf.doffLimit then
      let s1 := offer .doffStart s
      enterDoffing (s1.setBcu { s1.bcu with
        doff := none
        counts := { s1.bcu.counts with doffWins := bump s1.bcu.counts.doffWins } })
    else doffYield r s
  | none => s

/-- The doff timer expires in DOFFING (R157). -/
def doffTimerExpiry (s : State) : State :=
  match s.dsq.doffTimer with
  | some _ =>
    if s.dsq.phase = .doffing then
      let s1 := raise .doff false s
      s1.setDsq { s1.dsq with
        doffTimer := none
        longDoff := true
        counts := { s1.dsq.counts with longDoffs := bump s1.dsq.counts.longDoffs } }
    else s
  | none => s

/-- Passes that are in progress when restart evaluation begins do not count (R159). -/
def Chain.beforeEvaluation (c : Chain) : Chain :=
  { c with pass := c.pass.map fun p => { p with afterDoff := false } }

/-- Restart evaluation begins (R159). -/
def beginEvaluation (s : State) : State :=
  let s1 := s.setDsq { s.dsq with passCount := ⟨0, 0⟩, limitTimer := some restartLimitMs }
  s1.setSsc { s1.ssc with
    chains :=
      { l := s1.ssc.chains.l.beforeEvaluation, r := s1.ssc.chains.r.beforeEvaluation } }

/-- The end of a doff (R158). -/
def endDoff (s : State) : State :=
  let s1 := s.setDsq { s.dsq with phase := .restarting, doffGo := false, doffTimer := none }
  beginEvaluation (mapSpindles Spindle.restartNotice (offer .doffEnd s1))

/-- A rising edge of DOFF_DONE on a configured station (R149, R158). -/
def doffDoneEdge (s : State) : State :=
  if s.dsq.phase = .doffing then endDoff s
  else countDsq (fun c => { c with stray := bump c.stray }) s

/-! ### Restart evaluation (R159, R160) -/

/-- The end of restart evaluation, COMPLETE or LIMIT (R160). -/
def endEvaluation (complete : Bool) (s : State) : State :=
  let s1 := s.setDsq { s.dsq with limitTimer := none }
  let s2 := restartJudgement complete s1
  let s3 := s2.setDsq { s2.dsq with
    phase := .spinning
    overfull := false
    counts := { s2.dsq.counts with
      completed := bump s2.dsq.counts.completed
      limitRestarts :=
        if complete then s2.dsq.counts.limitRestarts else bump s2.dsq.counts.limitRestarts } }
  examineBoth (doffResumeBoth s3)

/-- An end-of-pass event reaches the sequencer (R159). -/
def passEnded (sd : Side) (p : Pass) (s : State) : State :=
  if s.dsq.phase = .restarting ∧ p.referenced ∧ p.afterDoff then
    let v := s.conf.verifyPasses
    let s1 := s.setDsq { s.dsq with
      passCount := s.dsq.passCount.set sd (satAdd v (s.dsq.passCount.get sd) 1) }
    if v ≤ s1.dsq.passCount.l ∧ v ≤ s1.dsq.passCount.r then endEvaluation true s1 else s1
  else s

/-- The restart limit timer expires (R159). -/
def restartLimitExpiry (s : State) : State :=
  match s.dsq.limitTimer with
  | some _ => if s.dsq.phase = .restarting then endEvaluation false s else s
  | none => s

/-! ### Warm restart (R164) -/

/-- A warm restart of the sequencer by its phase (R164); the passes that the scanner starts at the
same restart count (DEDUCED, notes/assumptions/28.md). -/
def Dsq.warmRestart (d : Dsq) (c : Cfg) (now : Nat) : Dsq :=
  let spun :=
    if prewarnLevel c ≤ d.progress then
      { d with phase := .prewarn, basis := some (now, d.progress), expected := none }
    else { d with phase := .spinning, basis := none, expected := none }
  match d.phase with
  | .spinning => spun
  | .prewarn => spun
  | .due => d
  | .claiming => { d with phase := .due }
  | .holding => { d with phase := .due }
  | .doffing => if d.longDoff then d else { d with doffTimer := some doffMs }
  | .restarting => { d with passCount := ⟨0, 0⟩, limitTimer := some restartLimitMs }

/-! ### The commands -/

/-- DOFF_WINDOW_EXPIRY (R139). -/
def execDoffWindowExpiry (s : State) : Host.Outcome State Fault Refusal :=
  .next (doffWindowExpiry s)

/-- DOFF_TIMER_EXPIRY (R157). -/
def execDoffTimerExpiry (s : State) : Host.Outcome State Fault Refusal :=
  .next (doffTimerExpiry s)

/-- RESTART_LIMIT_EXPIRY (R159, R160). -/
def execRestartLimitExpiry (s : State) : Host.Outcome State Fault Refusal :=
  .next (restartLimitExpiry s)

/-- DOFF_DONE_RISE (R149, R158): an edge during a warm restart waits for it (R186). -/
def execDoffDoneRise (s : State) : Host.Outcome State Fault Refusal :=
  let s1 := s.setPins { s.pins with doffDone := true }
  if s1.hpt.restarting then
    .next (s1.setHpt { s1.hpt with waiting := s1.hpt.waiting ++ [.doffDoneRise] })
  else if s1.configured then .next (doffDoneEdge s1)
  else .next s1

end Sys2Proof.Machine
end

