-- ==== Sys2Proof/Machine/Shifts.lean ====
section
/-! DEFINITION. The Shift Tally Unit: closing and adopting shifts, closed-shift records, reports and
bay tallies (R165 to R176). -/

namespace Sys2Proof.Machine

open Sys2Proof.Config

/-- Change the counts of R175. -/
def countStu (f : StuCounts → StuCounts) (s : State) : State :=
  s.setStu { s.stu with counts := f s.stu.counts }

/-- Write the shift start stamp, which the Production Counter holds (R52, R165). -/
def setShiftStart (t : Nat) (s : State) : State :=
  countAcc (fun a => { a with shiftStart := t }) s

/-! ### The current shift (R165, R169) -/

/-- The shift end, absent while the shift is unnumbered (R165). -/
def State.shiftEnd (s : State) : Option Nat :=
  if s.stu.number = 0 then none else some (s.pcn.acc.shiftStart + s.conf.shiftMin * 60000)

/-- An unnumbered station numbers its shift: nothing is closed (R169). -/
def numberShift (m : Nat) (s : State) : State :=
  setShiftStart s.flc.clock (s.setStu { s.stu with number := m })

/-- The adoption of a heard number (R169). -/
def adopt (m : Nat) (s : State) : State :=
  countStu (fun c => { c with adoptions := bump c.adoptions }) (numberShift m s)

/-- The self-numbering at the end of a JOIN listen (R169): the effects of an adoption of 1, its count
among them, and one more self-numbering. -/
def selfNumber (s : State) : State :=
  if s.stu.number = 0 then
    countStu (fun c => { c with selfNumberings := bump c.selfNumberings }) (adopt 1 s)
  else s

/-! ### Closing a shift (R54, R166) -/

/-- The closing figures of the accumulators (R54). -/
def closingFigures (a : Accum) (texX10 : Nat) : ClosedFigures where
  good := a.good.m
  slack := a.slack.m
  unobserved := a.unobserved.m
  mass := massOf texX10 a.good.m
  breaks := a.breaks
  carriagePieced := a.carriagePieced
  tenterPieced := a.tenterPieced
  countedFailures := a.countedFailures
  falseSuccesses := a.falseSuccesses
  blocked := a.blocked
  restartEndDowns := a.restartEndDowns
  doffs := a.doffs
  copsDoffed := a.copsDoffed
  shortCops := a.shortCops
  copSum := a.copSum.m
  creelChanges := a.creelChanges
  efficiency := a.efficiency

/-- A tally with one entry: the station's own (R166, R173). -/
def Tally.own (id mass good : Nat) : Tally where
  entries := [{ id := id, mass := mass, good := good }]
  count := 1
  massSum := mass
  goodSum := good

/-- The closed-shift record of a close with new number n (R166, steps 1, 2 and 5). -/
def closingRecord (n : Nat) (s : State) : ClosedRecord :=
  let f := closingFigures s.pcn.acc s.conf.texX10
  { shift := s.stu.number
    start := s.pcn.acc.shiftStart
    stop := s.flc.clock
    figures := f
    renumbered := s.stu.number + 1 < n
    offered := false
    reportTimer := some (s.conf.stationId * 100)
    tally := Tally.own s.conf.stationId f.mass f.good }

/-- A record is pushed off the list with its report not yet offered (R166, R171). -/
def dropsReport (records : List ClosedRecord) : Bool :=
  ((records.drop recordsMax).any (fun r => !r.offered))

/-- The close of the current shift with new number n (R166). -/
def closeShift (n : Nat) (s : State) : State :=
  let records := closingRecord n s :: s.stu.records
  let s1 := setShiftStart s.flc.clock (s.setPcn { s.pcn with acc := s.pcn.acc.closed })
  let s2 := s1.setStu
    { number := n
      records := records.take recordsMax
      counts := { s1.stu.counts with
        dropped :=
          if dropsReport records then bump s1.stu.counts.dropped else s1.stu.counts.dropped } }
  raise .shift false s2

/-- The own shift end is reached (R167). -/
def closeByTimer (s : State) : State :=
  let c := s.stu.number
  countStu (fun k => { k with byTimer := bump k.byTimer })
    (offer (.shiftClose c) (closeShift (c + 1) s))

/-- The shift end stands at or before the floor clock: the shift is closed, but for the shift
numbered 4,294,967,295 (R165, R167). -/
def shiftEndTest (s : State) : State :=
  match s.shiftEnd with
  | some t => if t ≤ s.flc.clock ∧ s.stu.number < max32 then closeByTimer s else s
  | none => s

/-! ### The floor clock comes to a floor time (R68, R118, R165) -/

/-- Every floor time that the clock has come to or passed is reached: the wake stamps of side L and of
side R, then the shift end (R68, R118, R165; the order is a DESIGN CHOICE, notes/assumptions/3.md). -/
def clockJumped (s : State) : State := shiftEndTest (wakeReached .R (wakeReached .L s))

/-- The floor clock comes to a floor time, never moving back, and what it has come to or passed is
reached (R118; DEDUCED, notes/assumptions/3.md). -/
def clockComesTo (t : Nat) (s : State) : State :=
  clockJumped (s.setFlc { s.flc with clock := max s.flc.clock t })

/-- WAKE_STAMP_REACHED: the floor clock comes to the side's wake stamp (R68). -/
def wakeStampReached (sd : Side) (s : State) : State :=
  match (s.bdp.get sd).wake with
  | some t => clockComesTo t s
  | none => s

/-- SHIFT_END_REACHED: the floor clock comes to the shift end (R167). -/
def shiftEndReached (s : State) : State :=
  match s.shiftEnd with
  | some t => clockComesTo t s
  | none => s

/-- The header's shift number of an accepted message (R168). -/
def headerShift (m : Nat) (s : State) : State :=
  let c := s.stu.number
  if m = 0 then s
  else if c = 0 then adopt m s
  else if c < m then
    countStu (fun k =>
      { k with
        byHeard := bump k.byHeard
        renumberings := if c + 1 < m then bump k.renumberings else k.renumberings })
      (closeShift m s)
  else if m < c then countStu (fun k => { k with behind := bump k.behind }) s
  else s

/-! ### Reports (R171) -/

/-- The report of a record (R171). -/
def ClosedRecord.report (r : ClosedRecord) : Msg :=
  .shiftReport r.shift r.figures.good r.figures.slack r.figures.mass r.figures.doffs
    r.figures.breaks r.figures.efficiency

/-- Change the record of a shift. -/
def modRecord (shift : Nat) (f : ClosedRecord → ClosedRecord) (s : State) : State :=
  s.setStu { s.stu with
    records := s.stu.records.map fun r => if r.shift = shift then f r else r }

/-- The record of a shift. -/
def State.record? (s : State) (shift : Nat) : Option ClosedRecord :=
  s.stu.records.find? (fun r => r.shift == shift)

/-- The report timer of a record expires: its report is offered (R171). -/
def reportTimerExpiry (shift : Nat) (s : State) : State :=
  match s.record? shift with
  | some r =>
    if r.reportTimer.isSome then
      modRecord shift (fun r => { r with offered := true, reportTimer := none })
        (offer r.report s)
    else s
  | none => s

/-! ### The bay tally (R172, R173) -/

/-- What became of a report offered to a tally (R173). -/
inductive Entered where
  | replaced | tallied | full
  deriving DecidableEq, Repr

/-- Insert an entry in id order. -/
def insertTally (e : TallyEntry) : List TallyEntry → List TallyEntry
  | [] => [e]
  | x :: xs => if e.id < x.id then e :: x :: xs else x :: insertTally e xs

/-- A report is offered to a tally (R173). -/
def Tally.enter (t : Tally) (e : TallyEntry) : Tally × Entered :=
  match t.entries.find? (fun x => x.id == e.id) with
  | some old =>
    ({ t with
       entries := t.entries.map fun x => if x.id = e.id then e else x
       massSum := t.massSum - old.mass + e.mass
       goodSum := t.goodSum - old.good + e.good }, .replaced)
  | none =>
    if t.entries.length < tallyMax then
      ({ entries := insertTally e t.entries
         count := t.count + 1
         massSum := t.massSum + e.mass
         goodSum := t.goodSum + e.good }, .tallied)
    else (t, .full)

/-- The count of R175 that an offer to a tally moves. -/
def StuCounts.entered (c : StuCounts) : Entered → StuCounts
  | .replaced => { c with replaced := bump c.replaced }
  | .tallied => { c with tallied := bump c.tallied }
  | .full => { c with tallyFull := bump c.tallyFull }

/-- An accepted SHIFT_REPORT (R172). -/
def shiftReportHeard (sender shift good mass : Nat) (s : State) : State :=
  if inBay s.conf sender = false then
    countStu (fun c => { c with outOfBay := bump c.outOfBay }) s
  else
    match s.record? shift with
    | some r =>
      let p := r.tally.enter { id := sender, mass := mass, good := good }
      countStu (fun c => c.entered p.2) (modRecord shift (fun r => { r with tally := p.1 }) s)
    | none => countStu (fun c => { c with unmatched := bump c.unmatched }) s

/-- An accepted SHIFT_CLOSE (R172). -/
def shiftCloseHeard (s : State) : State :=
  countStu (fun c => { c with closesHeard := bump c.closesHeard }) s

/-! ### The record as read (10.5.1) -/

/-- The 100 bytes of a closed-shift record. Bits 3 to 7 of the marks byte, of which 10.5.1 says nothing,
are 0 (DESIGN CHOICE, notes/assumptions/34.md). -/
def ClosedRecord.readBytes (r : ClosedRecord) : List Byte :=
  let f := r.figures
  beBytes 4 r.shift ++ beBytes 6 r.start ++ beBytes 6 r.stop ++
    beBytes 4 f.good ++ beBytes 4 f.slack ++ beBytes 4 f.unobserved ++ beBytes 4 f.mass ++
    beBytes 4 f.breaks ++ beBytes 4 f.carriagePieced ++ beBytes 4 f.tenterPieced ++
    beBytes 4 f.countedFailures ++ beBytes 4 f.falseSuccesses ++ beBytes 4 f.blocked ++
    beBytes 4 f.restartEndDowns ++ beBytes 4 f.doffs ++ beBytes 4 f.copsDoffed ++
    beBytes 4 f.shortCops ++ beBytes 4 f.copSum ++ beBytes 4 f.creelChanges ++
    beBytes 2 f.efficiency ++
    beBytes 1 ((if r.renumbered then 1 else 0) + (if r.offered then 2 else 0)) ++
    beBytes 1 r.tally.count ++ beBytes 8 r.tally.massSum ++ beBytes 8 r.tally.goodSum

/-! ### The commands -/

/-- WAKE_STAMP_REACHED (R68). -/
def execWakeStampReached (sd : Side) (s : State) : Host.Outcome State Fault Refusal :=
  .next (wakeStampReached sd s)

/-- SHIFT_END_REACHED (R167). -/
def execShiftEndReached (s : State) : Host.Outcome State Fault Refusal :=
  .next (shiftEndReached s)

/-- REPORT_TIMER_EXPIRY (R171). -/
def execReportTimerExpiry (shift : Nat) (s : State) : Host.Outcome State Fault Refusal :=
  .next (reportTimerExpiry shift s)

end Sys2Proof.Machine
end

