-- ==== Sys2Proof/Machine/Trains.lean ====
section
/-! DEFINITION. The bids, dockings and renewals of the Creel Monitor (R103 to R109). -/

namespace Sys2Proof.Machine

open Sys2Proof.Config

/-! ### Bidding (R103) -/

/-- The LOW group with the least remaining, the lower index among equals: its frame group index
(R103). The walk starts at index `i`. -/
def leastLow : Nat → List Group → Option (Nat × Group)
  | _, [] => none
  | i, g :: gs =>
    match leastLow (i + 1) gs with
    | some (j, h) =>
      if g.state = .low ∧ g.remaining ≤ h.remaining then some (i, g) else some (j, h)
    | none => if g.state = .low then some (i, g) else none

/-- The urgency of a train claim (R103): 0 at the quorum, else the remaining whole metres, carried as
at most 65,535 (R136). -/
def Group.trainUrgency (g : Group) (c : Cfg) : Nat :=
  if c.outQuorum ≤ g.out then 0 else min (g.remaining / 1000) 65535

/-- The group for which an offer starts a claim, when every condition of R103 holds. -/
def offerTarget (s : State) : Option (Nat × Group) :=
  if (biddingGroup s.cmn.groups).isSome ∨ s.dsq.phase = .doffing ∨ s.dsq.phase = .restarting ∨
      s.flc.link.sends = false then none
  else leastLow 1 s.cmn.groups

/-- A TRAIN_OFFER reaches the Creel Monitor (R103). -/
def trainOffered (train : Nat) (s : State) : State :=
  match offerTarget s with
  | some (index, g) =>
    let s1 := s.modGroup index (fun g => { g with state := .claiming, train := some train })
    let s2 := countCmn (fun c => { c with claimsStarted := bump c.claimsStarted }) s1
    startTrainClaim train index (g.trainUrgency s.conf) s2
  | none => countCmn (fun c => { c with offersPassed := bump c.offersPassed }) s

/-! ### The end of AWAITING (R105) -/

/-- An AWAITING group settles with its CREEL event (R105). -/
def waitEnded (index : Nat) (s : State) : State :=
  countCmn (fun c => { c with waitExpiries := bump c.waitExpiries })
    (raise .creel false (settleGroup index s))

/-- A TRAIN_WITHDRAWN reaches the Creel Monitor: the group that awaits the train settles (R105). -/
def trainWithdrawn (train : Nat) (s : State) : State :=
  match s.cmn.groups.findIdx? (fun g => g.state == .awaiting && g.train == some train) with
  | some i => waitEnded (i + 1) s
  | none => s

/-- The state timer of a group runs out in AWAITING (R105). -/
def trainWaitExpiry (index : Nat) (s : State) : State :=
  match s.group? index with
  | some g => if g.state = .awaiting ∧ g.timer.isSome then waitEnded index s else s
  | none => s

/-! ### Docking and the change (R106, R107) -/

/-- A docking for the own id that is not taken, or a CREEL_DONE message for an index outside the
frame (R106, R109). -/
def unexpectedDocking (s : State) : State :=
  countCmn (fun c => { c with unexpected := bump c.unexpected }) s

/-- A docking is taken (R106). -/
def dock (index : Nat) (s : State) : State :=
  let s1 := s.modGroup index (fun g =>
    { g with state := .changing, timer := some (ms s.conf.creelMaxS) })
  let p := groupPlace s1.n index
  countCmn (fun c => { c with dockings := bump c.dockings }) (creelChangeAbort p.1 p.2 s1)

/-- A TRAIN_DOCKED reaches the Creel Monitor (R106). -/
def trainDocked (train station index : Nat) (s : State) : State :=
  if station = s.conf.stationId then
    match s.group? index with
    | some g =>
      if g.state = .awaiting ∧ g.train = some train then dock index s else unexpectedDocking s
    | none => unexpectedDocking s
  else s

/-- The state timer of a group runs out in CHANGING: STALLED (R107). -/
def creelMaxExpiry (index : Nat) (s : State) : State :=
  match s.group? index with
  | some g =>
    if g.state = .changing ∧ g.timer.isSome then
      let s1 := s.modGroup index (fun g => { g with state := .stalled, timer := none })
      countCmn (fun c => { c with stalls := bump c.stalls }) (raise .creel true s1)
    else s
  | none => s

/-! ### Renewal (R108, R109) -/

/-- A renewal in this state is a manual creeling (R108, R111). -/
def GroupState.manual : GroupState → Bool
  | .fed => true
  | .low => true
  | .claiming => true
  | .awaiting => true
  | .changing => false
  | .stalled => false

/-- Step 1 of a renewal: the bid ends (R108). -/
def endBid (index : Nat) (g : Group) (s : State) : State :=
  match g.state with
  | .claiming =>
    countCmn (fun c => { c with abandons := bump c.abandons }) (withdrawTrainClaim s)
  | .awaiting => s.modGroup index (fun g => { g with timer := none, train := none })
  | .changing => s.modGroup index (fun g => { g with timer := none })
  | _ => s

/-- A group is renewed (R108). -/
def renewGroup (index : Nat) (s : State) : State :=
  match s.group? index with
  | some g =>
    let s1 := endBid index g s
    let s2 := s1.modGroup index (fun g =>
      { g with remaining := s.conf.rovingLenM * 1000, carry := 0 })
    let s3 := renewGroupSpindles index s2
    let s4 := s3.modGroup index (fun g => { g with state := .fed, train := none, timer := none })
    let s5 := raise .creel false
      (countAcc (fun a => { a with creelChanges := bump a.creelChanges }) s4)
    let s6 := countCmn (fun c =>
      { c with
        renewals := bump c.renewals
        manual := if g.state.manual then bump c.manual else c.manual }) s5
    if g.state.manual then s6 else examine (groupPlace s6.n index).1 s6
  | none => s

/-- A CREEL_DONE message reaches the Creel Monitor (R109). -/
def creelDoneHeard (station index : Nat) (s : State) : State :=
  if station = s.conf.stationId then
    match s.group? index with
    | some _ => renewGroup index s
    | none => unexpectedDocking s
  else s

/-! ### Configuration and warm restart (R99, R112) -/

/-- A group as CONFIGURE creates it (R99). -/
def Group.fresh (c : Cfg) : Group where
  state := .fed
  remaining := c.rovingLenM * 1000
  carry := 0
  out := 0
  train := none
  timer := none

/-- A warm restart of a group (R112). -/
def Group.warmRestart (g : Group) (c : Cfg) : Group :=
  match g.state with
  | .claiming => g.settle c
  | .awaiting => g.settle c
  | .changing => { g with timer := some (ms c.creelMaxS) }
  | _ => g

/-! ### The commands -/

/-- TRAIN_WAIT_EXPIRY (R105). -/
def execTrainWaitExpiry (group : Nat) (s : State) : Host.Outcome State Fault Refusal :=
  .next (trainWaitExpiry group s)

/-- CREEL_MAX_EXPIRY (R107). -/
def execCreelMaxExpiry (group : Nat) (s : State) : Host.Outcome State Fault Refusal :=
  .next (creelMaxExpiry group s)

end Sys2Proof.Machine
end

