-- ==== Sys2Proof/Machine/Link.lean ====
section
/-! DEFINITION. The Floor Link Controller: health, link states, the ends of an attempt, reception, the
floor clock and the peer table (R113 to R134). -/

namespace Sys2Proof.Machine

open Sys2Proof.Config

/-- Change the counts of R132. -/
def countFlc (f : FlcCounts → FlcCounts) (s : State) : State :=
  s.setFlc { s.flc with counts := f s.flc.counts }

/-! ### Link states (R123 to R128) -/

/-- The entry to JOIN (R125). -/
def enterJoin (s : State) : State :=
  s.setFlc { s.flc with
    link := .join, joinTimer := some (3 * s.conf.statusMs), beaconTimer := none }

/-- The entry to ACTIVE: a STATUS is offered, the beacon timer started (R127), and the re-claim test
made (R140). From JOIN with messages queued the STATUS is offered first, then the head of the queue
enters the slot, and the re-claim test comes last (DESIGN CHOICE, notes/assumptions/28.md). -/
def enterActive (s : State) : State :=
  let s1 := offer .status (s.setFlc { s.flc with link := .active })
  reclaimTest (s1.setFlc { s1.flc with beaconTimer := some s.conf.statusMs })

/-- The entry to CAUTIOUS (R124, R127). -/
def enterCautious (s : State) : State :=
  let s1 := raise .link false (s.setFlc { s.flc with link := .cautious, skip := false })
  countFlc (fun c => { c with cautiousEntries := bump c.cautiousEntries }) s1

/-- The entry to SILENT (R126). -/
def enterSilent (s : State) : State :=
  let s1 := clearQueue (abandonTransmission s)
  let s2 := abandonOwnClaims
    (s1.setFlc { s1.flc with link := .silent, beaconTimer := none })
  let s3 := raise .link true s2
  s3.setFlc { s3.flc with
    silentFrames := 0
    silentTimer := some silentMs
    counts := { s3.flc.counts with silentEntries := bump s3.flc.counts.silentEntries } }

/-- The end of SILENT (R126). -/
def endSilent (s : State) : State :=
  enterJoin (s.setFlc { s.flc with silentTimer := none, health := 0 })

/-- The entry to CONFLICT (R128). -/
def enterConflict (s : State) : State :=
  let s1 := clearQueue (abandonTransmission s)
  let s2 := abandonOwnClaims
    (s1.setFlc { s1.flc with
      link := .conflict, beaconTimer := none, joinTimer := none, silentTimer := none })
  countFlc (fun c => { c with conflictEntries := bump c.conflictEntries }) (raise .link true s2)

/-- The test that follows a change of H in ACTIVE and CAUTIOUS (R124). -/
def healthTest (s : State) : State :=
  if s.flc.link.sends then
    if 160 ≤ s.flc.health then enterSilent s
    else
      match s.flc.link with
      | .active => if 64 ≤ s.flc.health then enterCautious s else s
      | .cautious => if s.flc.health < 32 then enterActive s else s
      | _ => s
  else s

/-- H rises by a figure, up to 255, and is tested (R124). -/
def raiseHealth (n : Nat) (s : State) : State :=
  healthTest (s.setFlc { s.flc with health := satAdd 255 s.flc.health n })

/-! ### The expiries (R125 to R127) -/

/-- The JOIN timer expires: the station numbers itself if it must, the link enters ACTIVE, a doff
claim starts from DUE, and H is tested (R125, R152, R169) (DEDUCED, notes/assumptions/28.md). -/
def joinTimerExpiry (s : State) : State :=
  match s.flc.joinTimer with
  | some _ =>
    healthTest (claimIfDue (enterActive (selfNumber (s.setFlc { s.flc with joinTimer := none }))))
  | none => s

/-- The SILENT timer expires (R126). -/
def silentTimerExpiry (s : State) : State :=
  match s.flc.silentTimer with
  | some _ => endSilent s
  | none => s

/-- The beacon timer expires (R127). -/
def beaconTimerExpiry (s : State) : State :=
  match s.flc.beaconTimer with
  | some _ =>
    let s1 := s.setFlc { s.flc with beaconTimer := some s.conf.statusMs }
    match s.flc.link with
    | .active => offer .status s1
    | .cautious =>
      if s.flc.skip then offer .status (s1.setFlc { s1.flc with skip := false })
      else s1.setFlc { s1.flc with skip := true }
    | _ => s1
  | none => s

/-! ### The ends of an attempt (R122) -/

/-- A byte reads back different (R122). -/
def collision (s : State) : State :=
  match s.flc.slot with
  | some sl =>
    match sl.sending with
    | some _ =>
      let w := min 256 (2 * s.flc.width)
      let s1 := countFlc (fun c => { c with collisions := bump c.collisions }) s
      if sl.attempts < attemptsMax then
        (s1.setFlc { s1.flc with
          width := w
          slot := some { sl with slotsLeft := backoffDraw s.free % w, sending := none } }).setFree
          (s.free + 1)
      else
        fillSlot (raiseHealth 8 (s1.setFlc { s1.flc with
          slot := none
          width := 8
          counts := { s1.flc.counts with exhausted := bump s1.flc.counts.exhausted } }))
    | none => s
  | none => s

/-- The last CRC byte reads back as sent (R122) (DEDUCED, notes/assumptions/28.md). -/
def cleanSend (s : State) : State :=
  match s.flc.slot with
  | some sl =>
    match sl.sending with
    | some _ =>
      fillSlot (healthTest (s.setFlc { s.flc with
        slot := none
        width := 8
        health := s.flc.health - 1
        counts := { s.flc.counts with sent := bump s.flc.counts.sent } }))
    | none => s
  | none => s

/-! ### The floor clock (R118) -/

/-- The floor clock is adjusted when a stamp is more than 2 ms ahead (R118). -/
def adjustClock (stamp : Nat) (s : State) : State :=
  if s.flc.clock + 2 < stamp then
    clockComesTo stamp (s.setFlc { s.flc with
      counts := { s.flc.counts with clockAdjustments := bump s.flc.counts.clockAdjustments } })
  else s

/-! ### The peer table (R129 to R131) -/

/-- A new entry (R129). -/
def Peer.fresh (f : Frame) (now : Nat) : Peer where
  id := f.sender
  role := if f.rail then .rail else .frame
  lastHeard := now
  lastShift := f.shift
  phase := .none
  doffClaim := none
  trainClaim := none
  trainTake := none
  left := peerMs

/-- An entry brought up to date (R129). -/
def Peer.heard (p : Peer) (f : Frame) (now : Nat) : Peer :=
  { p with
    role := if f.rail then .rail else .frame
    lastHeard := now
    lastShift := f.shift
    left := peerMs }

/-- Insert an entry in id order. -/
def insertPeer (p : Peer) : List Peer → List Peer
  | [] => [p]
  | x :: xs => if p.id < x.id then p :: x :: xs else x :: insertPeer p xs

/-- The table has an entry of an id. -/
def hasPeer (ps : List Peer) (id : Nat) : Bool := ps.any (fun p => p.id == id)

/-- The phase that a STATUS shows (R130): CLAIMING is 3 and DOFFING is 5 (R115). -/
def phaseSeen (code : Nat) : PhaseSeen :=
  if code = 3 then .claiming else if code = 5 then .doffing else .none

/-- What an accepted message changes in its sender's entry (R130). -/
def Peer.view (p : Peer) : Content → Peer
  | .status code =>
    { p with
      phase := phaseSeen code
      doffClaim := if phaseSeen code = .claiming then p.doffClaim else none }
  | .doffClaim u => { p with phase := .claiming, doffClaim := some { urgency := u, left := staleMs } }
  | .doffYield => { p with phase := .none, doffClaim := none }
  | .doffStart => { p with phase := .doffing, doffClaim := none }
  | .doffEnd => { p with phase := .none }
  | .trainClaim t g u =>
    { p with trainClaim := some { train := t, group := g, urgency := u, left := staleMs } }
  | .trainYield t =>
    { p with trainClaim := p.trainClaim.filter (fun c => c.train != t) }
  | .trainTake t g =>
    { p with
      trainClaim := p.trainClaim.filter (fun c => c.train != t)
      trainTake := some { train := t, group := g, left := staleMs } }
  | _ => p

/-- A withdrawn train leaves an entry (R130). -/
def Peer.withdraw (p : Peer) (train : Nat) : Peer :=
  { p with
    trainClaim := p.trainClaim.filter (fun c => c.train != train)
    trainTake := p.trainTake.filter (fun c => c.train != train) }

/-- The table after the view change of a message (R130). -/
def viewChange (sender : Nat) (c : Content) (ps : List Peer) : List Peer :=
  match c with
  | .trainWithdrawn t => ps.map (fun p => p.withdraw t)
  | _ => ps.map (fun p => if p.id = sender then p.view c else p)

/-- What the Bay Claim Unit is told of in an entry (R130): its phase, claims and take, without the
timers (DEDUCED, notes/assumptions/12.md). -/
def Peer.shown (p : Peer) :
    PhaseSeen × Option Nat × Option (Nat × Nat × Nat) × Option (Nat × Nat) :=
  (p.phase, p.doffClaim.map PeerDoffClaim.urgency,
    p.trainClaim.map (fun c => (c.train, c.group, c.urgency)),
    p.trainTake.map (fun c => (c.train, c.group)))

/-- Replace the peer table. -/
def setPeers (ps : List Peer) (s : State) : State := s.setFlc { s.flc with peers := ps }

/-- The sender's entry is brought up to date (R129). -/
def touchPeer (f : Frame) (s : State) : State :=
  let ps := s.flc.peers
  if hasPeer ps f.sender then
    setPeers (ps.map (fun p => if p.id = f.sender then p.heard f s.flc.clock else p)) s
  else if ps.length < peersMax then setPeers (insertPeer (Peer.fresh f s.flc.clock) ps) s
  else countFlc (fun c => { c with tableFull := bump c.tableFull }) s

/-- Step 3 of an arrival (R119): the entry, then the view, with the notice of a change (R130). -/
def updatePeers (f : Frame) (s : State) : State :=
  let s1 := touchPeer f s
  if hasPeer s1.flc.peers f.sender then
    let ps := viewChange f.sender f.content s1.flc.peers
    if ps.map Peer.shown == s1.flc.peers.map Peer.shown then setPeers ps s1
    else recountD (setPeers ps s1)
  else s1

/-- A peer timer expires (R131). -/
def peerTimerExpiry (id : Nat) (s : State) : State :=
  if hasPeer s.flc.peers id then
    recountD (countFlc (fun c => { c with peerExpiries := bump c.peerExpiries })
      (setPeers (s.flc.peers.filter (fun p => p.id != id)) s))
  else s

/-- An item is present in an entry. -/
def Peer.holds (p : Peer) : StaleItem → Bool
  | .doffClaim => p.doffClaim.isSome
  | .trainClaim => p.trainClaim.isSome
  | .trainTake => p.trainTake.isSome

/-- Clear an item of an entry. -/
def Peer.drop (p : Peer) : StaleItem → Peer
  | .doffClaim => { p with doffClaim := none }
  | .trainClaim => { p with trainClaim := none }
  | .trainTake => { p with trainTake := none }

/-- A stale timer expires (R131) (DEDUCED, notes/assumptions/11.md). -/
def staleTimerExpiry (id : Nat) (item : StaleItem) (s : State) : State :=
  if s.flc.peers.any (fun p => p.id == id && p.holds item) then
    recountD (countFlc (fun c => { c with claimExpiries := bump c.claimExpiries })
      (setPeers (s.flc.peers.map (fun p => if p.id = id then p.drop item else p)) s))
  else s

/-! ### Reception (R116, R117, R119) -/

/-- Step 4 of an arrival: the content goes to the block that owns its subject (R119). -/
def deliverContent (f : Frame) (s : State) : State :=
  match f.content with
  | .trainClaim t _ u => trainClaimHeard f.sender t u s
  | .trainTake t _ => trainGone t s
  | .trainWithdrawn t => trainWithdrawn t (trainGone t s)
  | .trainOffer t => trainOffered t s
  | .trainDocked t station g => trainDocked t station g s
  | .creelDone station g => creelDoneHeard station g s
  | .shiftClose _ => shiftCloseHeard s
  | .shiftReport n good mass => shiftReportHeard f.sender n good mass s
  | _ => s

/-- An accepted message is handed on: clock, shift, peer table, content (R119). -/
def acceptMessage (f : Frame) (s : State) : State :=
  let s1 := countFlc (fun c => { c with accepted := bump c.accepted }) s
  let s2 := headerShift f.shift (adjustClock f.stamp s1)
  let s3 := if inBay s2.conf f.sender then updatePeers f s2 else s2
  deliverContent f s3

/-- A good frame of the own id outside a read-back (R117, R128). -/
def ownIdHeard (s : State) : State :=
  if s.flc.link = .conflict then
    countFlc (fun c => { c with conflictFrames := bump c.conflictFrames }) s
  else enterConflict s

/-- The filter of a good frame (R117). -/
def filterFrame (bytes : List Byte) (s : State) : State :=
  match parseFrame bytes with
  | none => countFlc (fun c => { c with foreign := bump c.foreign }) s
  | some f =>
    if f.sender = s.conf.stationId then ownIdHeard s
    else if inBay s.conf f.sender || f.content.isShift then acceptMessage f s
    else countFlc (fun c => { c with outOfBay := bump c.outOfBay }) s

/-- A good frame is counted; in SILENT it raises the silent-frames figure, which ends SILENT at 32
(R116, R126; DEDUCED, notes/assumptions/14.md). -/
def countGood (s : State) : State :=
  let s1 := countFlc (fun c => { c with goodFrames := bump c.goodFrames }) s
  if s1.flc.link = .silent then
    let s2 := s1.setFlc { s1.flc with silentFrames := s1.flc.silentFrames + 1 }
    if 32 ≤ s2.flc.silentFrames then endSilent s2 else s2
  else s1

/-- The bytes on the line are being read back (R113). -/
def State.readingBack (s : State) : Bool := s.flc.slot.any (fun sl => sl.sending.isSome)

/-- A received frame ends (R116): nothing is received in OFF or during a read-back (R113). -/
def floorFrameReceived (bytes : List Byte) (stopBitsOk : Bool) (s : State) : State :=
  if s.flc.link = .off ∨ s.readingBack = true then s
  else if frameGood bytes stopBitsOk then filterFrame bytes (countGood s)
  else raiseHealth 1 (countFlc (fun c => { c with badFrames := bump c.badFrames }) s)

/-! ### Warm restart (R134) -/

/-- A warm restart of the controller (R134). -/
def restartLink (s : State) : State :=
  let s1 := clearQueue (abandonTransmission s)
  enterJoin (s1.setFlc { s1.flc with
    peers := [], health := 0, width := 8, silentTimer := none })

/-! ### The commands -/

/-- FLOOR_FRAME_RECEIVED (R116). -/
def execFloorFrameReceived (bytes : List Byte) (stopBitsOk : Bool) (s : State) :
    Host.Outcome State Fault Refusal :=
  .next (floorFrameReceived bytes stopBitsOk s)

/-- SILENT_TIMER_EXPIRY (R126). -/
def execSilentTimerExpiry (s : State) : Host.Outcome State Fault Refusal :=
  .next (silentTimerExpiry s)

/-- JOIN_TIMER_EXPIRY (R125). -/
def execJoinTimerExpiry (s : State) : Host.Outcome State Fault Refusal :=
  .next (joinTimerExpiry s)

/-- BEACON_TIMER_EXPIRY (R127). -/
def execBeaconTimerExpiry (s : State) : Host.Outcome State Fault Refusal :=
  .next (beaconTimerExpiry s)

/-- COLLISION (R122). -/
def execCollision (s : State) : Host.Outcome State Fault Refusal :=
  .next (collision s)

/-- CLEAN_SEND (R122). -/
def execCleanSend (s : State) : Host.Outcome State Fault Refusal :=
  .next (cleanSend s)

/-- PEER_TIMER_EXPIRY (R131). -/
def execPeerTimerExpiry (peer : Nat) (s : State) : Host.Outcome State Fault Refusal :=
  .next (peerTimerExpiry peer s)

/-- STALE_TIMER_EXPIRY (R131). -/
def execStaleTimerExpiry (peer : Nat) (item : StaleItem) (s : State) :
    Host.Outcome State Fault Refusal :=
  .next (staleTimerExpiry peer item s)

end Sys2Proof.Machine
end

