-- ==== Sys2Proof/Machine/Scanner.lean ====
section
/-! DEFINITION. The Sensor Scanner: reads, passes, tiers, the run ratio, evidence, sensitivity and the
probe (R1 to R23), with the credits they hand on (R45 to R50). -/

namespace Sys2Proof.Machine

open Sys2Proof.Config

/-- Change the scanner's frame-wide counts (R21). -/
def countSsc (f : SscCounts → SscCounts) (s : State) : State :=
  s.setSsc { s.ssc with counts := f s.ssc.counts }

/-- Start the idle timer (R10). -/
def startIdle (secs : Nat) (s : State) : State :=
  s.setSsc { s.ssc with idleTimer := some (ms secs) }

/-! ### Passes (R7, R8) -/

/-- The READ of a section with a step, in flight (R1). -/
def newRead (section_ step : Nat) : ReadInFlight where
  section_ := section_
  step := step
  sent := readBytes section_ step

/-- Send the READ of a section with the step its record holds (R1, R7). -/
def Chain.sendRead (c : Chain) (section_ : Nat) : Chain :=
  { c with
    read := some (newRead section_ ((c.sections[section_ - 1]?.map Section.step).getD 8))
    readTimer := some readTimeoutMs }

/-- A pass starts with the READ of section 1 (R7). -/
def Chain.startPass (c : Chain) (afterDoff : Bool) : Chain :=
  { c.sendRead 1 with
    pass := some { section_ := 1, referenced := false, afterDoff := afterDoff }
    passes := bump c.passes }

/-- A pass of a side starts; one that starts in RESTARTING counts for the evaluation (R159). -/
def startPass (sd : Side) (s : State) : State :=
  s.setChain sd ((s.ssc.chains.get sd).startPass (s.dsq.phase == .restarting))

/-- The pass period of a tier, ms (R9). -/
def passPeriod (c : Cfg) : Tier → Nat
  | .run => c.passMs
  | .slow => 8 * c.passMs
  | .dormant => 60 * c.passMs

/-- The pass timer of a side expires (R8). -/
def passTimerExpiry (sd : Side) (s : State) : State :=
  let c := s.ssc.chains.get sd
  match c.passTimer with
  | none => s
  | some _ =>
    let c1 := { c with passTimer := some (passPeriod s.conf s.ssc.tier) }
    match c.pass with
    | none => startPass sd (s.setChain sd c1)
    | some _ =>
      s.setChain sd { c1 with owed := true, latePasses := bump c1.latePasses }

/-! ### Tiers (R10, R11) -/

/-- At the return to RUN a side starts a pass, or owes one (R11). -/
def returnPass (sd : Side) (s : State) : State :=
  let c := s.ssc.chains.get sd
  let c1 := { c with passTimer := some s.conf.passMs }
  match c.pass with
  | none => startPass sd (s.setChain sd c1)
  | some _ => s.setChain sd { c1 with owed := true }

/-- The frame returns to RUN (R11); the dispatcher examines each side (R68). -/
def returnToRun (s : State) : State :=
  let s1 := startIdle s.conf.idleDownS (s.setSsc { s.ssc with tier := .run })
  examineBoth (returnPass .R (returnPass .L (tierResumeBoth s1)))

/-- A referenced read or a rising edge of DRIVE_RUN: the idle timer starts again, and the frame
returns to RUN if it is not there (R10, R11). -/
def stayInRun (s : State) : State :=
  if s.ssc.tier = .run then startIdle s.conf.idleDownS s else returnToRun s

/-- The idle timer expires (R10). -/
def idleTimerExpiry (s : State) : State :=
  match s.ssc.idleTimer with
  | none => s
  | some _ =>
    let s1 := s.setSsc { s.ssc with idleTimer := none }
    if s.pins.driveRun then s1
    else
      match s.ssc.tier with
      | .run =>
        parkBoth (startIdle s.conf.dormantDownS (s1.setSsc { s1.ssc with tier := .slow }))
      | .slow => s1.setSsc { s1.ssc with tier := .dormant }
      | .dormant => s1

/-- A rising edge of DRIVE_RUN on a configured station (R10, R11, R68). -/
def driveRiseEdge (s : State) : State := examineBoth (stayInRun s)

/-- A falling edge of DRIVE_RUN on a configured station (R10). -/
def driveFallEdge (s : State) : State := startIdle s.conf.idleDownS s

/-! ### Deliveries (R4, R5, R45 to R50) -/

/-- A delivery of F pulses at a section: the credit, observed or unobserved, with the efficiency
tallies of a referenced read, and its two hand-ons (R45 to R50). -/
def deliver (sd : Side) (section_ f : Nat) (observed referenced : Bool) (s : State) : State :=
  let d := (s.delivery? sd section_).getD { cycle := 0, remainder := 0 }
  let whole := creditWhole s.conf.frUm f d.remainder
  let cycle := (d.credit s.conf.frUm f).cycle
  let s1 := creditSection sd section_ f s
  let s2 := if observed then creditObserved sd section_ whole cycle s1
    else creditUnobserved whole s1
  let s3 := if referenced then tallyEfficiency sd section_ s2 else s2
  creditProgress cycle (drawDown (groupIndex s3.n sd section_) whole s3)

/-- The pulses since a section's snapshots, tin then front roller, modulo 2^32 (R2) (DESIGN CHOICE,
notes/assumptions/27.md). -/
def sectionDeltas (s : State) (x : Section) : Option (Nat × Nat) :=
  x.snapshots.map fun p => ((s.ssc.tin - p.1).toNat, (s.ssc.fr - p.2).toNat)

/-- The section's snapshots are replaced (R2). -/
def takeSnapshots (sd : Side) (section_ : Nat) (s : State) : State :=
  s.modSection sd section_ (fun x => { x with snapshots := some (s.ssc.tin, s.ssc.fr) })

/-! ### Completions without a usable answer (R4) -/

/-- The miss count of a completion without a usable answer, with the entry to LOST (R4). -/
def countMiss (sd : Side) (section_ : Nat) (x : Section) (s : State) : State :=
  if x.lost = false ∧ 3 ≤ x.miss + 1 then
    raise .sensor true (countSsc (fun c => { c with lostEntries := bump c.lostEntries })
      (s.modSection sd section_ (fun x => { x with miss := 3, lost := true })))
  else s.modSection sd section_ (fun x => { x with miss := satAdd 3 x.miss 1 })

/-- An unanswered or garbled completion (R4). -/
def missedRead (sd : Side) (section_ : Nat) (garbled : Bool) (s : State) : State :=
  match s.section? sd section_ with
  | none => s
  | some x =>
    let s1 :=
      match sectionDeltas s x with
      | some d => deliver sd section_ d.2 false false s
      | none => s
    let s2 := (takeSnapshots sd section_ s1).modSection sd section_ (fun x => { x with base := none })
    let s3 := countMiss sd section_ x s2
    countSsc (fun c =>
      if garbled then { c with garbled := bump c.garbled }
      else { c with unanswered := bump c.unanswered }) s3

/-! ### The run ratio and the evidence (R12 to R16) -/

/-- The expected traveller passes (R12). -/
def expectedPasses (c : Cfg) (t : Nat) : Nat :=
  t * c.spindleRatio * (1000 - c.lag) / (c.tinPpr * 1000000)

/-- A measuring read is referenced (R13). -/
def referencedRead (c : Cfg) (pExp : Nat) : Bool := c.refMin ≤ pExp && pExp ≤ 32768

/-- The run ratio in permille (R14). -/
def runRatio (passes pExp : Nat) : Nat := min 1999 (1000 * passes / pExp)

/-- One referenced read writes a spindle's run ratio, evidence counters and quality runs (R14 to
R16). -/
def Spindle.takeRead (r : Spindle) (c : Cfg) (q quality : Nat) : Spindle :=
  let r1 := { r with ratio := some q }
  let r2 :=
    if q < c.breakLevel then
      { r1 with breakCount := satAdd 15 r1.breakCount 1, slackCount := 0, goodCount := 0 }
    else if q < c.slackLevel then
      { r1 with slackCount := satAdd 15 r1.slackCount 1, breakCount := 0, goodCount := 0 }
    else
      { r1 with goodCount := satAdd 15 r1.goodCount 1, breakCount := 0, slackCount := 0 }
  if quality < c.qualMin then { r2 with lowRun := satAdd 31 r2.lowRun 1, goodRun := 0 }
  else { r2 with goodRun := satAdd 31 r2.goodRun 1, lowRun := 0 }

/-- The side position of the i-th spindle of a section. -/
def positionAt (section_ i : Nat) : Nat := sectionSize * (section_ - 1) + i

/-- The traveller passes of the i-th spindle since the base, modulo 65,536 (R6, step 1). -/
def travellerDelta (base counts : List W16) (i : Nat) : Nat :=
  (counts.getD i 0 - base.getD i 0).toNat

/-- The received counts become the base and the last traveller counts (R5, R6). -/
def takeCounts (sd : Side) (section_ : Nat) (counts : List W16) (s : State) : State :=
  let s1 := s.modSection sd section_ (fun x => { x with base := some counts })
  (List.range sectionSize).foldl (fun t i =>
    t.modSpindle sd (positionAt section_ i) (fun r => { r with traveller := counts.getD i 0 })) s1

/-- The scanner writes a referenced read into the section's records (R6, step 3). -/
def writeEvidence (sd : Side) (section_ pExp : Nat) (base : List W16) (a : NodeAnswer) (s : State) :
    State :=
  (List.range sectionSize).foldl (fun t i =>
    t.modSpindle sd (positionAt section_ i) (fun r =>
      r.takeRead s.conf (runRatio (travellerDelta base a.counts i) pExp) (a.qualities.getD i 0))) s

/-! ### Sensitivity and the probe (R17 to R19) -/

/-- The qualities of the section's spindles that are now RUNNING or SLACK (R17). -/
def producingQualities (rs : List Spindle) (qualities : List Nat) : List Nat :=
  ((rs.zip qualities).filter (fun p => p.1.state.producing)).map Prod.snd

/-- The step after a referenced read (R17). -/
def nextStep (step : Nat) (qs : List Nat) : Nat :=
  if qs.isEmpty then step
  else if qs.sum / qs.length < 32 then min 15 (step + 1)
  else if 56 < qs.sum / qs.length then step - 1
  else step

/-- The section's sensitivity step is adjusted (R17). -/
def adjustStep (sd : Side) (section_ : Nat) (a : NodeAnswer) (s : State) : State :=
  let qs := producingQualities (s.sectionSpindles sd section_) a.qualities
  s.modSection sd section_ (fun x => { x with step := nextStep x.step qs })

/-- The probe at a measuring read (R19). -/
def probeRead (sd : Side) (section_ : Nat) (t : Nat) (f : Option Nat) (pExp : Nat) (ref : Bool)
    (base : List W16) (a : NodeAnswer) (s : State) : State :=
  match s.ssc.probeIndex, s.ssc.capture with
  | some k, none =>
    let p := spindlePlace s.n k
    if p.1 = sd ∧ sectionOf p.2 = section_ then
      let i := p.2 % sectionSize
      let c := travellerDelta base a.counts i
      s.setSsc { s.ssc with
        probeIndex := some (if k < 2 * s.n then k + 1 else 1)
        capture := some
          { spindle := k
            c := c
            quality := a.qualities.getD i 0
            t := t
            f := f
            pExp := min pExp max32
            q := if ref then some (runRatio c pExp) else none } }
    else s
  | _, _ => s

/-! ### Answered reads (R5, R6) -/

/-- The delivery of an answered read (R5): none without snapshots, unobserved at a catch-up, else
observed. -/
def answeredDelivery (sd : Side) (section_ : Nat) (f : Option Nat) (catchUp referenced : Bool)
    (s : State) : State :=
  match f with
  | some f => deliver sd section_ f (!catchUp) referenced s
  | none => s

/-- The steps of a measuring read (R6); whether it was referenced. -/
def measuringRead (sd : Side) (section_ : Nat) (deltas : Option (Nat × Nat)) (base : List W16)
    (catchUp : Bool) (a : NodeAnswer) (s : State) : State × Bool :=
  let t := (deltas.map Prod.fst).getD 0
  let f := deltas.map Prod.snd
  let s1 := takeCounts sd section_ a.counts s
  let pExp := expectedPasses s.conf t
  let ref := referencedRead s.conf pExp
  let s2 :=
    if 32768 < pExp then countSsc (fun c => { c with longIntervals := bump c.longIntervals }) s1
    else s1
  let s3 :=
    if ref then judgeSection sd section_ (writeEvidence sd section_ pExp base a s2) else s2
  let s4 := answeredDelivery sd section_ f catchUp ref s3
  let s5 := if ref then adjustStep sd section_ a s4 else s4
  let s6 := probeRead sd section_ t f pExp ref base a s5
  let s7 := if ref then stayInRun s6 else s6
  (takeSnapshots sd section_ s7, ref)

/-- A base-taking read (R5). -/
def baseTakingRead (sd : Side) (section_ : Nat) (deltas : Option (Nat × Nat)) (catchUp : Bool)
    (a : NodeAnswer) (s : State) : State :=
  takeSnapshots sd section_ (answeredDelivery sd section_ (deltas.map Prod.snd) catchUp false
    (takeCounts sd section_ a.counts s))

/-- An answered completion (R5, R6); whether the read was referenced. -/
def answeredRead (sd : Side) (section_ : Nat) (a : NodeAnswer) (s : State) : State × Bool :=
  match s.section? sd section_ with
  | none => (s, false)
  | some x =>
    let s1 := s.modSection sd section_ (fun x => { x with miss := 0, lost := false })
    let s2 :=
      if a.restarted then countSsc (fun c => { c with nodeRestarts := bump c.nodeRestarts }) s1
      else s1
    let deltas := sectionDeltas s x
    match if a.restarted then none else x.base with
    | none => (baseTakingRead sd section_ deltas x.lost a s2, false)
    | some base => measuringRead sd section_ deltas base x.lost a s2

/-! ### The end of a completion (R7, R8) -/

/-- The end-of-pass event of a side (R7), and the owed pass (R8). -/
def endPass (sd : Side) (p : Pass) (s : State) : State :=
  let c := s.ssc.chains.get sd
  let s1 := passEnded sd p (s.setChain sd { c with pass := none })
  let c1 := s1.ssc.chains.get sd
  if c1.owed then startPass sd (s1.setChain sd { c1 with owed := false }) else s1

/-- After the work of a completion: the next READ of the pass, or its end (R7). -/
def nextRead (sd : Side) (section_ : Nat) (referenced : Bool) (s : State) : State :=
  let c := s.ssc.chains.get sd
  match c.pass with
  | none => s
  | some p =>
    let p1 := { p with referenced := p.referenced || referenced }
    if section_ < s.sections then
      s.setChain sd { c.sendRead (section_ + 1) with pass := some { p1 with section_ := section_ + 1 } }
    else endPass sd p1 s

/-- The read in flight on a chain is over: no read, and its timeout stopped (R1). -/
def Chain.endRead (c : Chain) : Chain := { c with read := none, readTimer := none }

/-- The 5 ms timeout of a read expires (R1, R4). -/
def readAnswerTimeout (sd : Side) (s : State) : State :=
  let c := s.ssc.chains.get sd
  match c.read with
  | none => s
  | some r =>
    nextRead sd r.section_ false (missedRead sd r.section_ false (s.setChain sd c.endRead))

/-- The bytes of an answer (R1): answered, or garbled when the echo or the check byte disagrees. Bytes
outside a read are discarded. The answer is complete at 75 bytes: fewer do nothing, and bytes after
the 75th are discarded, since the read has then completed (DEDUCED, notes/assumptions/11.md). -/
def sectionReadAnswer (sd : Side) (bytes : List Byte) (s : State) : State :=
  let c := s.ssc.chains.get sd
  match c.read with
  | none => s
  | some r =>
    if 75 ≤ bytes.length then
      let s1 := s.setChain sd c.endRead
      match parseNodeAnswer r.section_ (bytes.take 75) with
      | none => nextRead sd r.section_ false (missedRead sd r.section_ true s1)
      | some a =>
        let p := answeredRead sd r.section_ a s1
        nextRead sd r.section_ p.2 p.1
    else s

/-! ### Start and warm restart (R22, R23) -/

/-- A section record after a cold reset (R3). -/
def Section.fresh : Section where
  snapshots := none
  base := none
  step := 8
  miss := 0
  lost := false

/-- The scanner starts at CONFIGURE (R22). -/
def startScanner (s : State) : State :=
  let fresh := fun (c : Chain) =>
    { c with
      sections := List.replicate s.sections Section.fresh, passTimer := some s.conf.passMs }
  let s1 := s.setSsc { s.ssc with
    chains := { l := fresh s.ssc.chains.l, r := fresh s.ssc.chains.r } }
  startIdle s.conf.idleDownS (startPass .R (startPass .L s1))

/-- A chain at a warm restart, before its new pass (R23). -/
def Chain.warmRestart (c : Chain) (passMs : Nat) : Chain :=
  { c.endRead with
    sections := c.sections.map fun x => { x with snapshots := none, base := none }
    pass := none
    owed := false
    passTimer := some passMs }

/-- A warm restart of the scanner (R23). -/
def restartScanner (s : State) : State :=
  let s1 := s.setSsc { s.ssc with
    tier := .run
    chains :=
      { l := s.ssc.chains.l.warmRestart s.conf.passMs
        r := s.ssc.chains.r.warmRestart s.conf.passMs } }
  startIdle s.conf.idleDownS (startPass .R (startPass .L s1))

/-! ### The commands -/

/-- TIN_PULSE_EDGE (R2). -/
def execTinPulseEdge (s : State) : Host.Outcome State Fault Refusal :=
  .next (s.setSsc { s.ssc with tin := s.ssc.tin + 1 })

/-- FR_PULSE_EDGE (R2). -/
def execFrPulseEdge (s : State) : Host.Outcome State Fault Refusal :=
  .next (s.setSsc { s.ssc with fr := s.ssc.fr + 1 })

/-- SECTION_READ_ANSWER (R1, R5, R6). -/
def execSectionReadAnswer (sd : Side) (bytes : List Byte) (s : State) :
    Host.Outcome State Fault Refusal :=
  .next (sectionReadAnswer sd bytes s)

/-- READ_ANSWER_TIMEOUT (R4). -/
def execReadAnswerTimeout (sd : Side) (s : State) : Host.Outcome State Fault Refusal :=
  .next (readAnswerTimeout sd s)

/-- PASS_TIMER_EXPIRY (R8). -/
def execPassTimerExpiry (sd : Side) (s : State) : Host.Outcome State Fault Refusal :=
  .next (passTimerExpiry sd s)

/-- IDLE_TIMER_EXPIRY (R10). -/
def execIdleTimerExpiry (s : State) : Host.Outcome State Fault Refusal :=
  .next (idleTimerExpiry s)

/-- DRIVE_RUN_RISE (R10, R11, R68): an edge during a warm restart waits for it (R186). -/
def execDriveRunRise (s : State) : Host.Outcome State Fault Refusal :=
  let s1 := s.setPins { s.pins with driveRun := true }
  if s1.hpt.restarting then
    .next (s1.setHpt { s1.hpt with waiting := s1.hpt.waiting ++ [.driveRise] })
  else if s1.configured then .next (driveRiseEdge s1)
  else .next s1

/-- DRIVE_RUN_FALL (R10): an edge during a warm restart waits for it (R186). -/
def execDriveRunFall (s : State) : Host.Outcome State Fault Refusal :=
  let s1 := s.setPins { s.pins with driveRun := false }
  if s1.hpt.restarting then
    .next (s1.setHpt { s1.hpt with waiting := s1.hpt.waiting ++ [.driveFall] })
  else if s1.configured then .next (driveFallEdge s1)
  else .next s1

end Sys2Proof.Machine
end

