-- ==== Sys2Proof/Machine/Reports.lean ====
section
/-! DEFINITION. What the read requests return: the figures each chapter gives to the host (R40, R72,
R97, R110, R132, R145, R162, R174, R184, R185, R189). -/

namespace Sys2Proof.Machine

open Sys2Proof.Config

/-! ### READ_STATUS (R184) -/

/-- A figure for each side. -/
def bothSides {α : Type} (f : Side → α) : Sides α := { l := f .L, r := f .R }

/-- The census of a side, in the order of the state codes (R24). -/
def State.censusList (s : State) (sd : Side) : List Nat :=
  allSpindleStates.map (s.census sd)

/-- The LOST sections of a side (R21). -/
def State.lostSections (s : State) (sd : Side) : Nat :=
  (s.ssc.chains.get sd).sections.countP (fun x => x.lost)

/-- What READ_STATUS returns of a carriage (R97). -/
def Carriage.summary (c : Carriage) : CarSummary where
  state := c.state
  jobs := c.counts.jobs
  pieced := c.counts.pieced
  failed := c.counts.failed
  lost := c.counts.lost

/-- The seconds left on the timer that the phase gives (R162). -/
def Dsq.secondsLeft (d : Dsq) : Option Nat :=
  match d.phase with
  | .doffing => seconds d.doffTimer
  | .restarting => seconds d.limitTimer
  | _ => none

/-- The figures of a configured station (R184); `doffDoneHigh` is the level of DOFF_DONE. -/
def statusFigures (s : State) (doffDoneHigh : Bool) : StatusFigures where
  tier := s.ssc.tier
  passes := bothSides fun sd => (s.ssc.chains.get sd).passes
  latePasses := bothSides fun sd => (s.ssc.chains.get sd).latePasses
  sscCounts := s.ssc.counts
  lostSections := bothSides s.lostSections
  census := bothSides s.censusList
  sensorFaults := s.spt.sensorFaults
  acc := s.pcn.acc
  efficiency := s.pcn.acc.efficiency
  mass := massOf s.conf.texX10 s.pcn.acc.good.m
  overflows := bothSides fun sd => (s.bdp.get sd).counts.overflows
  dispatches := bothSides fun sd => (s.bdp.get sd).counts.dispatches
  carriages := bothSides fun sd => (s.clc.get sd).summary
  stalls := s.cmn.counts.stalls
  unexpectedDockings := s.cmn.counts.unexpected
  health := s.flc.health
  peerEntries := s.flc.peers.length
  sent := s.flc.counts.sent
  exhausted := s.flc.counts.exhausted
  badFrames := s.flc.counts.badFrames
  cautiousEntries := s.flc.counts.cautiousEntries
  silentEntries := s.flc.counts.silentEntries
  conflictEntries := s.flc.counts.conflictEntries
  doffSlot := s.bcu.doff
  doffSlotD := s.bcu.doff.map fun r => s.dCount r.urgency
  trainSlot := s.bcu.train
  hold := s.bcu.hold
  holdD := s.bcu.hold.map fun h => s.dCount h.urgency
  bcuCounts := s.bcu.counts
  phase := s.dsq.phase
  progress := s.dsq.progress
  due := s.dsq.due
  expected := s.dsq.expected
  overfull := s.dsq.overfull
  doffGo := s.dsq.doffGo
  stopReq := s.dsq.stopReq
  doffDone := doffDoneHigh
  doffSeconds := s.dsq.secondsLeft
  restartPasses := if s.dsq.phase = .restarting then some s.dsq.passCount else none
  doffingPeers := s.flc.peers.countP (fun p => p.phase == .doffing)
  dsqCounts := s.dsq.counts
  shift := s.stu.number
  shiftStart := s.pcn.acc.shiftStart
  shiftEnd := s.shiftEnd
  records := s.stu.records.length
  stuCounts := s.stu.counts
  badTransactions := s.hpt.badTransactions
  discarded := s.hpt.discarded
  ignored := s.hpt.ignored
  copy := s.hpt.copy

/-- The level of DOFF_DONE (R162): low where it has not risen since it was last seen low, and else a
free value, since no command tells of its fall (DESIGN CHOICE, notes/assumptions/6.md). -/
def State.doffDoneLevel (s : State) : Bool := s.pins.doffDone && doffDoneStillHigh s.free

/-- READ_STATUS has looked at the level of DOFF_DONE (R149, R162): a low level has fallen for good, and
stays low until the next rise (DESIGN CHOICE, notes/assumptions/6.md). -/
def State.lookAtDoffDone (s : State) : State :=
  (s.setPins { s.pins with doffDone := s.doffDoneLevel }).setFree (s.free + 1)

/-- The READ_STATUS answer (R184). -/
def statusAnswer (s : State) : StatusAnswer where
  cause := s.hpt.cause
  link := s.flc.link
  clock := s.flc.clock
  attnLevel := s.atc.line
  pendingClasses := allClasses.filter fun c => (s.atc.classes.get c).pending
  figures := if s.configured then some (statusFigures s s.doffDoneLevel) else none

/-! ### The lists and tables -/

/-- One line of READ_BREAKS (R72). -/
def breakLine (s : State) (sd : Side) (e : BreakEntry) : BreakLine where
  spindle := spindleNumber s.n sd e.position
  position := e.position
  arrival := e.arrival
  notBefore := e.notBefore
  hold := holdMark s sd e

/-- The READ_BREAKS answer (R72). -/
def breaksAnswer (s : State) (sd : Side) : BreaksAnswer where
  lines := (s.bdp.get sd).entries.map (breakLine s sd)
  unlisted := s.unlisted sd
  eligibility := eligibility s sd
  wake := (s.bdp.get sd).wake
  fullReported := (s.bdp.get sd).fullReported
  counts := (s.bdp.get sd).counts

/-- The READ_CARRIAGE answer (R97). -/
def Carriage.report (c : Carriage) : CarriageAnswer where
  state := c.state
  held := c.held
  position := c.position
  direction := c.direction
  job := c.job
  jobSeconds := seconds c.jobTimer
  record := c.record
  doffDemand := c.doffDemand
  tierDemand := c.tierDemand
  outstanding := c.outstanding
  stage := c.stage
  outcomes := c.outcomes
  lastOutcome := c.lastOutcome
  lastFault := c.lastFault
  counts := c.counts

/-- One group of READ_CREEL (R110). -/
def groupLine (index : Nat) (g : Group) : GroupLine where
  index := index
  state := g.state
  remaining := g.remaining
  carry := g.carry
  out := g.out
  train := g.train
  seconds := seconds g.timer

/-- The groups of READ_CREEL, from a first index (R110). -/
def groupLines (s : State) (first count : Nat) : List GroupLine :=
  (((s.cmn.groups.drop (first - 1)).take count).zipIdx first).map fun p => groupLine p.2 p.1

/-- A peer entry as READ_PEERS shows it: the times left in whole seconds (R132). -/
def Peer.report (p : Peer) : Peer :=
  { p with
    left := p.left / 1000
    doffClaim := p.doffClaim.map fun c => { c with left := c.left / 1000 }
    trainClaim := p.trainClaim.map fun c => { c with left := c.left / 1000 }
    trainTake := p.trainTake.map fun c => { c with left := c.left / 1000 } }

/-- The READ_PEERS answer (R132). -/
def peersAnswer (s : State) : PeersAnswer where
  link := s.flc.link
  health := s.flc.health
  width := s.flc.width
  clock := s.flc.clock
  peers := s.flc.peers.map Peer.report
  counts := s.flc.counts

/-! ### FIND (R40, R41) -/

/-- The comparison of a FIND (R40, R183). -/
inductive Comparison where
  | none | attemptsAtLeast (n : Nat) | copBelow (n : Nat) | copAtLeast (n : Nat)
  deriving DecidableEq, Repr

/-- The arguments of a host FIND (R41). -/
structure FindArgs where
  start : Nat
  dir : Dir
  count : Nat
  states : Nat
  comparison : Comparison
  deriving DecidableEq, Repr

/-- The comparison holds for a record (R40). -/
def Comparison.holds (c : Comparison) (r : Spindle) : Bool :=
  match c with
  | .none => true
  | .attemptsAtLeast n => n ≤ r.attempts
  | .copBelow n => r.cop < n
  | .copAtLeast n => n ≤ r.cop

/-- The comparison of a kind byte and a value; none where R41 or R183 gives RANGE. -/
def comparisonOf (kind value : Nat) : Option Comparison :=
  match kind with
  | 0 => some .none
  | 1 => if value ≤ 7 then some (.attemptsAtLeast value) else none
  | 2 => some (.copBelow value)
  | 3 => some (.copAtLeast value)
  | _ => none

/-- The direction of a direction byte (R183). -/
def dirOf (b : Nat) : Option Dir :=
  match b with
  | 0 => some .up
  | 1 => some .down
  | _ => none

/-- The arguments in a FIND payload; none where R41 or R183 gives RANGE. -/
def parseFind (n : Nat) (p : List Byte) : Option FindArgs :=
  let start := fieldAt p 0 2
  let count := fieldAt p 3 2
  let states := fieldAt p 5 2
  if 1 ≤ start ∧ start ≤ 2 * n ∧ 1 ≤ count ∧ count ≤ 2 * n ∧ 1 ≤ states ∧ states < 1024 ∧
      fieldAt p 12 2 = 0 then
    match dirOf (fieldAt p 2 1), comparisonOf (fieldAt p 7 1) (fieldAt p 8 4) with
    | some dir, some comparison =>
      some { start := start, dir := dir, count := count, states := states, comparison := comparison }
    | _, _ => none
  else none

/-- The record of a spindle number (R24). -/
def State.record (s : State) (number : Nat) : Option Spindle :=
  let p := spindlePlace s.n number
  s.spindle? p.1 p.2

/-- A record meets the condition of a FIND (R40). -/
def FindArgs.meets (a : FindArgs) (r : Spindle) : Bool :=
  a.states.testBit r.state.code && a.comparison.holds r

/-- The result of a host FIND over the whole frame (R40, R41). -/
def findResult (s : State) (a : FindArgs) : FindResult :=
  let cond := fun (place : Nat) => (s.record (place + 1)).any a.meets
  match searchFrom cond (2 * s.n) a.dir a.count (a.start - 1) 0 with
  | (found, place, examined) => { found := found, spindle := place + 1, examined := examined }

/-! ### Copy-out (R185) -/

/-- The spindle number k places after a number, wrapping from 2N to 1 (R185). -/
def numberAfter (n number k : Nat) : Nat := (number - 1 + k) % (2 * n) + 1

/-- The records of a chunk in their layout (R185, 2.6.1). -/
def chunkBytes (s : State) (first count : Nat) : List Byte :=
  ((List.range count).map fun i =>
    let number := numberAfter s.n first i
    ((s.record number).map (fun r => r.copyBytes number)).getD []).flatten

/-- The records of the next chunk (R185). -/
def Copy.chunkSize (c : Copy) : Nat := min 32 c.left

/-- The copy state after a chunk (R185). -/
def Copy.advance (c : Copy) (n : Nat) : Option Copy :=
  if c.left = c.chunkSize then none
  else some { next := numberAfter n c.next c.chunkSize, left := c.left - c.chunkSize }

end Sys2Proof.Machine
end

