-- ==== Sys2Proof/WellFormed.lean ====
section
/-! DEFINITION. The checks of a command's operands against the ranges the manual gives them. -/

namespace Sys2Proof

/-- The request code that R183 gives a host request's row. -/
def Instr.requestCode : Instr → Option Nat
  | .configure _ => some 0x01
  | .restart _ => some 0x02
  | .readStatus _ => some 0x03
  | .readDelta _ => some 0x04
  | .readShift _ => some 0x05
  | .readTally _ => some 0x06
  | .copySpindles _ => some 0x07
  | .copyNext _ => some 0x08
  | .find _ => some 0x09
  | .readBreaks _ => some 0x0A
  | .readCarriage _ => some 0x0B
  | .clearOutcomes _ => some 0x0C
  | .carriageConnect _ => some 0x0D
  | .carriageRelease _ => some 0x0E
  | .readCreel _ => some 0x0F
  | .creelDone _ => some 0x10
  | .tenterClear _ => some 0x11
  | .forceDoff _ => some 0x12
  | .readPeers _ => some 0x13
  | .readAttention _ => some 0x14
  | .ackAttention _ => some 0x15
  | .setAttentionEnable _ => some 0x16
  | .probeStart _ => some 0x17
  | .readProbe _ => some 0x18
  | _ => none

/-- A code is in the request table of R183. -/
def knownCode (code : Nat) : Bool := 1 ≤ code && code ≤ 0x18

/-- A command's operands lie in the ranges the manual gives them. A command outside them is not
stopped by the machine: its meaning says what the manual does with it. -/
def Instr.wellFormed : Instr → Bool
  | .unknownRequest (code :: _) => !knownCode code.toNat
  | .unknownRequest [] => true
  | .badTransaction first => first != 1#8 && first != 2#8
  | .sectionReadAnswer _ bytes => 75 ≤ bytes.length
  | .carriageAnswer _ bytes => bytes.length != 0
  | .peerTimerExpiry peer => 1 ≤ peer && peer ≤ 63
  | .staleTimerExpiry peer _ => 1 ≤ peer && peer ≤ 63
  | .trainWaitExpiry group => 1 ≤ group && group ≤ 72
  | .creelMaxExpiry group => 1 ≤ group && group ≤ 72
  | .reportTimerExpiry shift => 1 ≤ shift && shift < max32
  | .backoffCountdownStopped counted => counted < 256
  | _ => true

end Sys2Proof
end

