-- ==== Sys2Proof/Machine/HostPort.lean ====
section
/-! DEFINITION. The Host Port: transactions, checks, CONFIGURE, the requests and the two resets (R177 to
R189). -/

namespace Sys2Proof.Machine

open Sys2Proof.Config

/-- Change the Host Port. -/
def modHpt (f : Hpt → Hpt) (s : State) : State := s.setHpt (f s.hpt)

/-! ### Answers (R177, R178) -/

/-- The payload bytes where the manual lays them out: an empty payload, the closed-shift record and
the chunk (R174, R185). That a chunk's fields take 2, 1 and 1 bytes is read from R185's figure of 612
bytes (DEDUCED, notes/assumptions/25.md). -/
def Payload.bytes? : Payload → Option (List Byte)
  | .empty => some []
  | .shiftRecord bytes => some bytes
  | .chunk first count last records =>
    some (beBytes 2 first ++ beBytes 1 count ++ [if last then 1 else 0] ++ records)
  | _ => none

/-- The payload bytes of an answer without a layout, at an index of the free values: a free length and
free bytes (DESIGN CHOICE, notes/assumptions/8.md). -/
def freeBytes (index : Nat) : List Byte :=
  (List.range (answerLength index % 4097)).map (answerByte index)

/-- An answer becomes the current answer, and READY is asserted (R177). -/
def setAnswer (code : Byte) (st : Status) (p : Payload) (bytes : List Byte) (s : State) : State :=
  modHpt (fun h => { h with
    current := some { code := code, status := st, payload := p, bytes := bytes }, ready := true }) s

/-- An answer is made (R177). The bytes of an answer without a layout are a free value (DESIGN CHOICE,
notes/assumptions/8.md). -/
def reply (code : Byte) (st : Status) (p : Payload) (s : State) : State :=
  match p.bytes? with
  | some bytes => setAnswer code st p bytes s
  | none => (setAnswer code st p (freeBytes s.free) s).setFree (s.free + 1)

/-- A received request discards the current answer, which was never read in full (R178); READY is
released at the transaction byte (R177). -/
def discardCurrent (s : State) : State :=
  modHpt (fun h => { h with
    current := none
    ready := false
    discarded := if h.current.isSome then bump h.discarded else h.discarded }) s

/-- A write received while a RESTART is being served (R178). -/
def ignoreWrite (s : State) : State := modHpt (fun h => { h with ignored := bump h.ignored }) s

/-- What serving a request gives: the state, the status and the payload. -/
structure Served where
  state : State
  status : Status
  payload : Payload
  deriving DecidableEq, Repr

/-- A request answered with a status alone. -/
def Served.plain (st : Status) (s : State) : Served := { state := s, status := st, payload := .empty }

/-- A request answered OK with a payload, changing nothing. -/
def Served.shows (p : Payload) (s : State) : Served := { state := s, status := .ok, payload := p }

/-- The checks of R178 in their order, up to the request's own rules. `len` is the test of the
payload length of R183, and `early` marks the requests served before CONFIGURE. -/
def checked (early : Bool) (len : Nat → Bool) (rule : List Byte → State → Served)
    (body : List Byte) (s : State) : Served :=
  match payloadOf body with
  | none => .plain .range s
  | some p =>
    if len p.length = false then .plain .range s
    else if s.configured = false ∧ early = false then .plain .notConfigured s
    else rule p s

/-- A request is served in the event of its receipt (R178). -/
def serve (code : Byte) (early : Bool) (len : Nat → Bool) (rule : List Byte → State → Served)
    (body : List Byte) (s : State) : State :=
  if s.hpt.restarting then ignoreWrite s
  else
    let r := checked early len rule body (discardCurrent s)
    reply code r.status r.payload r.state

/-- A request whose payload is one side byte (R183). -/
def onSide (rule : Side → State → Served) (p : List Byte) (s : State) : Served :=
  match sideOf p with
  | some sd => rule sd s
  | none => .plain .range s

/-! ### CONFIGURE (R181, R182, R187) -/

/-- The enables that a class set gives: FRAME_ALERT is always enabled (R187). -/
def enablesOf (set : Nat) (c : AttnClass) (x : ClassState) : ClassState :=
  { x with enabled := c.named set || c == .frameAlert }

/-- The Attention Controller takes its configuration (R187). -/
def Atc.configure (a : Atc) (c : Cfg) : Atc :=
  { a with
    mode := if c.attnMode = 1 then .pulse else .level
    classes := a.classes.map (enablesOf c.attnEnable) }

/-- The carriage of a side enters CONNECTING if CARRIAGES includes it (R84). -/
def configureCarriage (c : Cfg) (sd : Side) (s : State) : State :=
  if fitted c sd then connectCarriage sd s else s

/-- Every block takes its configuration and leaves its cold state (R182). -/
def configureBlocks (c : Cfg) (s : State) : State :=
  let s1 := s.setCfg (some c)
  let perSide := List.replicate s1.n Spindle.fresh
  let records := List.replicate s1.sections { cycle := 0, remainder := 0 }
  let s2 := s1.setSpt { s1.spt with spindles := { l := perSide, r := perSide } }
  let s3 := s2.setPcn
    { deliveries := { l := records, r := records }, acc := Accum.zero, delta := Delta.zero }
  let s4 := s3.setBdp { l := Breaks.cold, r := Breaks.cold }
  let s5 := s4.setCmn
    { Cmn.cold with groups := List.replicate (2 * s1.sections) (Group.fresh c) }
  let s6 := configureCarriage c .R (configureCarriage c .L s5)
  let s7 := s6.setAtc (s6.atc.configure c)
  startScanner (enterJoin s7)

/-- CONFIGURE by its own rules (R178, R181, R182). -/
def ruleConfigure (p : List Byte) (s : State) : Served :=
  if s.configured then .plain .already s
  else
    match refusedCodes p with
    | [] =>
      let fields := fieldList p
      let s1 := configureBlocks (acceptedCfg fields) s
      match clampedList fields with
      | [] => .plain .ok s1
      | cs => { state := s1, status := .clamped, payload := .clampedFields cs }
    | codes => { state := s, status := .range, payload := .refusedFields codes }

/-! ### The reads -/

/-- READ_STATUS (R184): the level of DOFF_DONE takes one free value, and stands as it was seen. -/
def ruleReadStatus (_ : List Byte) (s : State) : Served :=
  .shows (.status (statusAnswer s)) s.lookAtDoffDone

/-- READ_DELTA (R55): the delta is returned and cleared in one event. -/
def ruleReadDelta (_ : List Byte) (s : State) : Served :=
  .shows (.delta s.pcn.delta) (s.setPcn { s.pcn with delta := Delta.zero })

/-- The closed-shift record at a place that READ_SHIFT or READ_TALLY names (R174). -/
def onRecord (answer : ClosedRecord → Payload) (p : List Byte) (s : State) : Served :=
  let k := fieldAt p 0 1
  if 3 < k then .plain .range s
  else
    match s.stu.records[k]? with
    | some r => .shows (answer r) s
    | none => .plain .state s

/-- READ_SHIFT (R174). -/
def ruleReadShift : List Byte → State → Served := onRecord fun r => .shiftRecord r.readBytes

/-- READ_TALLY (R174). -/
def ruleReadTally : List Byte → State → Served :=
  onRecord fun r => .tally { shift := r.shift, tally := r.tally }

/-- READ_BREAKS (R72). -/
def ruleReadBreaks : List Byte → State → Served :=
  onSide fun sd s => .shows (.breaks (breaksAnswer s sd)) s

/-- READ_CARRIAGE (R97). -/
def ruleReadCarriage : List Byte → State → Served :=
  onSide fun sd s => .shows (.carriage (s.clc.get sd).report) s

/-- READ_CREEL (R110). -/
def ruleReadCreel (p : List Byte) (s : State) : Served :=
  let first := fieldAt p 0 1
  let count := fieldAt p 1 1
  if 1 ≤ first ∧ 1 ≤ count ∧ first + count - 1 ≤ 2 * s.sections then
    .shows (.creel (groupLines s first count) s.cmn.counts (biddingGroup s.cmn.groups)) s
  else .plain .range s

/-- READ_PEERS (R132). -/
def ruleReadPeers (_ : List Byte) (s : State) : Served := .shows (.peers (peersAnswer s)) s

/-- READ_ATTENTION (R189). -/
def ruleReadAttention (_ : List Byte) (s : State) : Served :=
  .shows (.attention { classes := s.atc.classes, mode := s.atc.mode, level := s.atc.line }) s

/-- READ_PROBE (R20): the capture is returned and emptied. -/
def ruleReadProbe (_ : List Byte) (s : State) : Served :=
  .shows (.probe s.ssc.capture) (s.setSsc { s.ssc with capture := none })

/-- FIND (R40, R41). -/
def ruleFind (p : List Byte) (s : State) : Served :=
  match parseFind s.n p with
  | some a => .shows (.find (findResult s a)) s
  | none => .plain .range s

/-! ### Copy-out (R185) -/

/-- COPY_SPINDLES (R185). -/
def ruleCopySpindles (p : List Byte) (s : State) : Served :=
  let first := fieldAt p 0 2
  let count := fieldAt p 2 2
  if 1 ≤ first ∧ first ≤ 2 * s.n ∧ 1 ≤ count ∧ count ≤ 2 * s.n then
    if s.hpt.copy.isSome then .plain .busy s
    else .plain .ok (modHpt (fun h => { h with copy := some { next := first, left := count } }) s)
  else .plain .range s

/-- COPY_NEXT (R185). -/
def ruleCopyNext (_ : List Byte) (s : State) : Served :=
  match s.hpt.copy with
  | none => .plain .state s
  | some c =>
    .shows (.chunk c.next c.chunkSize (c.left == c.chunkSize) (chunkBytes s c.next c.chunkSize))
      (modHpt (fun h => { h with copy := c.advance s.n }) s)

/-! ### The commands of the host -/

/-- CLEAR_OUTCOMES (R97). -/
def ruleClearOutcomes : List Byte → State → Served :=
  onSide fun sd s => .plain .ok (modCar sd (fun c => { c with outcomes := [] }) s)

/-- CARRIAGE_CONNECT on a side (R85). -/
def connectSide (sd : Side) (s : State) : Served :=
  if fitted s.conf sd = false then .plain .state s
  else
    match (s.clc.get sd).state with
    | .disconnected => .plain .ok (connectCarriage sd s)
    | .lost => .plain .ok (modCar sd Carriage.enterConnecting s)
    | _ => .plain .state s

/-- CARRIAGE_CONNECT (R85). -/
def ruleCarriageConnect : List Byte → State → Served := onSide connectSide

/-- CARRIAGE_RELEASE (R86). -/
def ruleCarriageRelease : List Byte → State → Served :=
  onSide fun sd s =>
    if (s.clc.get sd).state = .disconnected then .plain .state s
    else .plain .ok (releaseCarriage sd s)

/-- CREEL_DONE as a host request (R109). -/
def ruleCreelDone (p : List Byte) (s : State) : Served :=
  let index := fieldAt p 0 1
  if 1 ≤ index ∧ index ≤ 2 * s.sections then .plain .ok (renewGroup index s)
  else .plain .range s

/-- TENTER_CLEAR (R36). -/
def ruleTenterClear (p : List Byte) (s : State) : Served :=
  let number := fieldAt p 0 2
  if 1 ≤ number ∧ number ≤ 2 * s.n then
    let place := spindlePlace s.n number
    if (s.spindle? place.1 place.2).map Spindle.state = some .blocked then
      .plain .ok (tenterClear place.1 place.2 s)
    else .plain .state s
  else .plain .range s

/-- FORCE_DOFF (R161). -/
def ruleForceDoff (_ : List Byte) (s : State) : Served :=
  if s.dsq.phase.forceable then .plain .ok (forceDoff s) else .plain .state s

/-- The Attention Controller after an acknowledgement (R189). -/
def Atc.acknowledge (a : Atc) (set : Nat) : Atc :=
  a.take (a.classes.map fun c x =>
    if c.named set then { x with pending := false, count := 0 } else x)

/-- ACK_ATTENTION (R189). -/
def ruleAckAttention (p : List Byte) (s : State) : Served :=
  let set := fieldAt p 0 2
  if set < 512 then .plain .ok (s.setAtc (s.atc.acknowledge set)) else .plain .range s

/-- SET_ATTENTION_ENABLE (R189). -/
def ruleSetAttentionEnable (p : List Byte) (s : State) : Served :=
  let set := fieldAt p 0 2
  if set < 512 then .plain .ok (s.setAtc (s.atc.take (s.atc.classes.map (enablesOf set))))
  else .plain .range s

/-- PROBE_START (R18). -/
def ruleProbeStart (p : List Byte) (s : State) : Served :=
  let number := fieldAt p 0 2
  if 1 ≤ number ∧ number ≤ 2 * s.n then
    .plain .ok (s.setSsc { s.ssc with probeIndex := some number, capture := none })
  else .plain .range s

/-! ### RESTART (R186) -/

/-- RESTART by its checks (R178, R186): it is taken once the station is configured, and its answer
comes with RESTART_COMPLETE. -/
def restartRequest (body : List Byte) (s : State) : State :=
  if s.hpt.restarting then ignoreWrite s
  else
    let s1 := discardCurrent s
    match payloadOf body with
    | some [] =>
      if s1.configured then modHpt (fun h => { h with restarting := true }) s1
      else reply 0x02 .notConfigured .empty s1
    | _ => reply 0x02 .range .empty s1

/-- Every block acts as its chapter states for a warm restart (R23, R43, R59, R74, R98, R112, R134,
R146, R164, R176, R186) (DEDUCED, notes/assumptions/4.md). -/
def warmRestart (s : State) : State :=
  let s1 := emptyLists (mapSpindles Spindle.warmRestart s)
  let s2 := modCar .R Carriage.warmRestart (modCar .L Carriage.warmRestart s1)
  let s3 := s2.setCmn { s2.cmn with groups := s2.cmn.groups.map fun g => g.warmRestart s2.conf }
  let s4 := s3.setBcu { s3.bcu with doff := none, train := none, hold := none }
  let s5 := s4.setDsq (s4.dsq.warmRestart s4.conf s4.flc.clock)
  restartScanner (restartLink s5)

/-- An edge that waited for the restart is taken by its block (R186). -/
def takeEdge (s : State) : Edge → State
  | .driveRise => driveRiseEdge s
  | .driveFall => driveFallEdge s
  | .doffDoneRise => doffDoneEdge s

/-- The restart has taken effect in every block: the answer OK is made, and the edges that waited
are taken in their order (R186) (DEDUCED, notes/assumptions/4.md). -/
def restartComplete (s : State) : State :=
  if s.hpt.restarting then
    let s1 := modHpt (fun h => { h with
      restarting := false, waiting := [], copy := none, cause := .warm }) (warmRestart s)
    s.hpt.waiting.foldl takeEdge (reply 0x02 .ok .empty s1)
  else s

/-! ### Transactions (R177, R178) -/

/-- A write whose code is not in the request table, or that has no code (R178) (DEDUCED,
notes/assumptions/11.md). -/
def unknownRequest (bytes : List Byte) (s : State) : State :=
  if s.hpt.restarting then ignoreWrite s
  else
    match bytes with
    | [] =>
      (reply (missingCodeEcho s.free) .range .empty (discardCurrent s)).setFree (s.free + 1)
    | code :: body =>
      if knownCode code.toNat then s
      else
        match payloadOf body with
        | none => reply code .range .empty (discardCurrent s)
        | some _ => reply code .unknownRequest .empty (discardCurrent s)

/-- The code of a status, byte 1 of an answer (R179). -/
def Status.code : Status → Byte
  | .ok => 0
  | .clamped => 1
  | .busy => 2
  | .state => 3
  | .range => 4
  | .unknownRequest => 5
  | .already => 6
  | .notConfigured => 7

/-- The bytes of an answer (R177): the code echo, the status code, the payload length A and the
payload. -/
def Answer.frame (a : Answer) : List Byte :=
  [a.code, a.status.code] ++ beBytes 2 a.bytes.length ++ a.bytes

/-- The bytes that stand for "no current answer" (R177): code echo 00h, status 00h and length 0. -/
def noAnswerFrame : List Byte := [0, 0, 0, 0]

/-- The bytes on MISO while the host clocks some (R177): the current answer from its first byte, and
00h past its end. -/
def misoBytes (current : Option Answer) (clocked : Nat) : List Byte :=
  let frame := (current.map Answer.frame).getD noAnswerFrame
  frame.take clocked ++ List.replicate (clocked - frame.length) 0

/-- A read transaction (R177): the current answer is clocked out, and consumed when every byte of it
is clocked. -/
def hostRead (clocked : Nat) (s : State) : State :=
  modHpt (fun h =>
    let h1 := { h with
      shown := some { answer := h.current, bytes := misoBytes h.current clocked } }
    match h.current with
    | some a =>
      if 4 + a.bytes.length ≤ clocked then { h1 with current := none, ready := false } else h1
    | none => h1) s

/-- A transaction whose first byte is neither 01h nor 02h (R177) (DEDUCED, notes/assumptions/11.md). The
manual gives its count no width, limit or reset value: it is 32 bits wide, saturates and is 0 after a
cold reset, as the counts of R178 are (DESIGN CHOICE, notes/assumptions/35.md). -/
def badTransaction (first : Byte) (s : State) : State :=
  if first = 1 ∨ first = 2 then s
  else modHpt (fun h => { h with badTransactions := bump h.badTransactions }) s

/-- A cold reset (R186): every block is in its cold state. The model's own fields and the levels that
the frame drives stand (DESIGN CHOICE, notes/assumptions/5.md). -/
def coldReset (s : State) : State :=
  { State.reset with pins := s.pins, free := s.free, pending := s.pending }

/-! ### The commands -/

/-- A payload length of R183. -/
def exactly (n : Nat) (p : Nat) : Bool := p == n

/-- COLD_RESET (R186). -/
def execColdReset (s : State) : Host.Outcome State Fault Refusal := .next (coldReset s)

/-- CONFIGURE (R180 to R182). -/
def execConfigure (body : List Byte) (s : State) : Host.Outcome State Fault Refusal :=
  .next (serve 0x01 true (fun p => p ≤ 120) ruleConfigure body s)

/-- RESTART (R186). -/
def execRestart (body : List Byte) (s : State) : Host.Outcome State Fault Refusal :=
  .next (restartRequest body s)

/-- RESTART_COMPLETE (R186). -/
def execRestartComplete (s : State) : Host.Outcome State Fault Refusal :=
  .next (restartComplete s)

/-- READ_STATUS (R184). -/
def execReadStatus (body : List Byte) (s : State) : Host.Outcome State Fault Refusal :=
  .next (serve 0x03 true (exactly 0) ruleReadStatus body s)

/-- READ_DELTA (R55). -/
def execReadDelta (body : List Byte) (s : State) : Host.Outcome State Fault Refusal :=
  .next (serve 0x04 false (exactly 0) ruleReadDelta body s)

/-- READ_SHIFT (R174). -/
def execReadShift (body : List Byte) (s : State) : Host.Outcome State Fault Refusal :=
  .next (serve 0x05 false (exactly 1) ruleReadShift body s)

/-- READ_TALLY (R174). -/
def execReadTally (body : List Byte) (s : State) : Host.Outcome State Fault Refusal :=
  .next (serve 0x06 false (exactly 1) ruleReadTally body s)

/-- COPY_SPINDLES (R185). -/
def execCopySpindles (body : List Byte) (s : State) : Host.Outcome State Fault Refusal :=
  .next (serve 0x07 false (exactly 4) ruleCopySpindles body s)

/-- COPY_NEXT (R185). -/
def execCopyNext (body : List Byte) (s : State) : Host.Outcome State Fault Refusal :=
  .next (serve 0x08 false (exactly 0) ruleCopyNext body s)

/-- FIND (R40, R41). -/
def execFind (body : List Byte) (s : State) : Host.Outcome State Fault Refusal :=
  .next (serve 0x09 false (exactly 14) ruleFind body s)

/-- READ_BREAKS (R72). -/
def execReadBreaks (body : List Byte) (s : State) : Host.Outcome State Fault Refusal :=
  .next (serve 0x0A false (exactly 1) ruleReadBreaks body s)

/-- READ_CARRIAGE (R97). -/
def execReadCarriage (body : List Byte) (s : State) : Host.Outcome State Fault Refusal :=
  .next (serve 0x0B false (exactly 1) ruleReadCarriage body s)

/-- CLEAR_OUTCOMES (R97). -/
def execClearOutcomes (body : List Byte) (s : State) : Host.Outcome State Fault Refusal :=
  .next (serve 0x0C false (exactly 1) ruleClearOutcomes body s)

/-- CARRIAGE_CONNECT (R85). -/
def execCarriageConnect (body : List Byte) (s : State) : Host.Outcome State Fault Refusal :=
  .next (serve 0x0D false (exactly 1) ruleCarriageConnect body s)

/-- CARRIAGE_RELEASE (R86). -/
def execCarriageRelease (body : List Byte) (s : State) : Host.Outcome State Fault Refusal :=
  .next (serve 0x0E false (exactly 1) ruleCarriageRelease body s)

/-- READ_CREEL (R110). -/
def execReadCreel (body : List Byte) (s : State) : Host.Outcome State Fault Refusal :=
  .next (serve 0x0F false (exactly 2) ruleReadCreel body s)

/-- CREEL_DONE as a host request (R109). -/
def execCreelDone (body : List Byte) (s : State) : Host.Outcome State Fault Refusal :=
  .next (serve 0x10 false (exactly 1) ruleCreelDone body s)

/-- TENTER_CLEAR (R36). -/
def execTenterClear (body : List Byte) (s : State) : Host.Outcome State Fault Refusal :=
  .next (serve 0x11 false (exactly 2) ruleTenterClear body s)

/-- FORCE_DOFF (R161). -/
def execForceDoff (body : List Byte) (s : State) : Host.Outcome State Fault Refusal :=
  .next (serve 0x12 false (exactly 0) ruleForceDoff body s)

/-- READ_PEERS (R132). -/
def execReadPeers (body : List Byte) (s : State) : Host.Outcome State Fault Refusal :=
  .next (serve 0x13 false (exactly 0) ruleReadPeers body s)

/-- READ_ATTENTION (R189). -/
def execReadAttention (body : List Byte) (s : State) : Host.Outcome State Fault Refusal :=
  .next (serve 0x14 false (exactly 0) ruleReadAttention body s)

/-- ACK_ATTENTION (R189). -/
def execAckAttention (body : List Byte) (s : State) : Host.Outcome State Fault Refusal :=
  .next (serve 0x15 false (exactly 2) ruleAckAttention body s)

/-- SET_ATTENTION_ENABLE (R189). -/
def execSetAttentionEnable (body : List Byte) (s : State) : Host.Outcome State Fault Refusal :=
  .next (serve 0x16 false (exactly 2) ruleSetAttentionEnable body s)

/-- PROBE_START (R18). -/
def execProbeStart (body : List Byte) (s : State) : Host.Outcome State Fault Refusal :=
  .next (serve 0x17 false (exactly 2) ruleProbeStart body s)

/-- READ_PROBE (R20). -/
def execReadProbe (body : List Byte) (s : State) : Host.Outcome State Fault Refusal :=
  .next (serve 0x18 false (exactly 0) ruleReadProbe body s)

/-- UNKNOWN_REQUEST (R178). -/
def execUnknownRequest (bytes : List Byte) (s : State) : Host.Outcome State Fault Refusal :=
  .next (unknownRequest bytes s)

/-- HOST_READ_TRANSACTION (R177). -/
def execHostReadTransaction (clocked : Nat) (s : State) : Host.Outcome State Fault Refusal :=
  .next (hostRead clocked s)

/-- BAD_TRANSACTION (R177). -/
def execBadTransaction (first : Byte) (s : State) : Host.Outcome State Fault Refusal :=
  .next (badTransaction first s)

/-- IGNORED_WRITE (R178). -/
def execIgnoredWrite (_bytes : List Byte) (s : State) : Host.Outcome State Fault Refusal :=
  .next (if s.hpt.restarting then ignoreWrite s else s)

end Sys2Proof.Machine
end

