-- ==== Sys2Proof/Machine/Dispatch.lean ====
section
/-! DEFINITION. The meaning of each command: one arm per constructor. -/

namespace Sys2Proof.Machine

/-- The effect of a command on everything but the queue. -/
def exec (i : Instr) (s : State) : Host.Outcome State Fault Refusal :=
  match i with
  | .coldReset => Sys2Proof.Machine.execColdReset s
  | .configure body => Sys2Proof.Machine.execConfigure body s
  | .restart body => Sys2Proof.Machine.execRestart body s
  | .restartComplete => Sys2Proof.Machine.execRestartComplete s
  | .readStatus body => Sys2Proof.Machine.execReadStatus body s
  | .readDelta body => Sys2Proof.Machine.execReadDelta body s
  | .readShift body => Sys2Proof.Machine.execReadShift body s
  | .readTally body => Sys2Proof.Machine.execReadTally body s
  | .copySpindles body => Sys2Proof.Machine.execCopySpindles body s
  | .copyNext body => Sys2Proof.Machine.execCopyNext body s
  | .find body => Sys2Proof.Machine.execFind body s
  | .readBreaks body => Sys2Proof.Machine.execReadBreaks body s
  | .readCarriage body => Sys2Proof.Machine.execReadCarriage body s
  | .clearOutcomes body => Sys2Proof.Machine.execClearOutcomes body s
  | .carriageConnect body => Sys2Proof.Machine.execCarriageConnect body s
  | .carriageRelease body => Sys2Proof.Machine.execCarriageRelease body s
  | .readCreel body => Sys2Proof.Machine.execReadCreel body s
  | .creelDone body => Sys2Proof.Machine.execCreelDone body s
  | .tenterClear body => Sys2Proof.Machine.execTenterClear body s
  | .forceDoff body => Sys2Proof.Machine.execForceDoff body s
  | .readPeers body => Sys2Proof.Machine.execReadPeers body s
  | .readAttention body => Sys2Proof.Machine.execReadAttention body s
  | .ackAttention body => Sys2Proof.Machine.execAckAttention body s
  | .setAttentionEnable body => Sys2Proof.Machine.execSetAttentionEnable body s
  | .probeStart body => Sys2Proof.Machine.execProbeStart body s
  | .readProbe body => Sys2Proof.Machine.execReadProbe body s
  | .unknownRequest bytes => Sys2Proof.Machine.execUnknownRequest bytes s
  | .hostReadTransaction clocked => Sys2Proof.Machine.execHostReadTransaction clocked s
  | .badTransaction first => Sys2Proof.Machine.execBadTransaction first s
  | .ignoredWrite bytes => Sys2Proof.Machine.execIgnoredWrite bytes s
  | .tinPulseEdge => Sys2Proof.Machine.execTinPulseEdge s
  | .frPulseEdge => Sys2Proof.Machine.execFrPulseEdge s
  | .sectionReadAnswer side bytes => Sys2Proof.Machine.execSectionReadAnswer side bytes s
  | .readAnswerTimeout side => Sys2Proof.Machine.execReadAnswerTimeout side s
  | .passTimerExpiry side => Sys2Proof.Machine.execPassTimerExpiry side s
  | .idleTimerExpiry => Sys2Proof.Machine.execIdleTimerExpiry s
  | .driveRunRise => Sys2Proof.Machine.execDriveRunRise s
  | .driveRunFall => Sys2Proof.Machine.execDriveRunFall s
  | .wakeStampReached side => Sys2Proof.Machine.execWakeStampReached side s
  | .exchangeTimerExpiry side => Sys2Proof.Machine.execExchangeTimerExpiry side s
  | .carriageAnswer side bytes => Sys2Proof.Machine.execCarriageAnswer side bytes s
  | .carriageAnswerTimeout side => Sys2Proof.Machine.execCarriageAnswerTimeout side s
  | .silenceTimerExpiry side => Sys2Proof.Machine.execSilenceTimerExpiry side s
  | .jobTimerExpiry side => Sys2Proof.Machine.execJobTimerExpiry side s
  | .floorFrameReceived bytes stopBitsOk => Sys2Proof.Machine.execFloorFrameReceived bytes stopBitsOk s
  | .silentTimerExpiry => Sys2Proof.Machine.execSilentTimerExpiry s
  | .joinTimerExpiry => Sys2Proof.Machine.execJoinTimerExpiry s
  | .beaconTimerExpiry => Sys2Proof.Machine.execBeaconTimerExpiry s
  | .transmitAttemptStart => Sys2Proof.Machine.execTransmitAttemptStart s
  | .collision => Sys2Proof.Machine.execCollision s
  | .cleanSend => Sys2Proof.Machine.execCleanSend s
  | .peerTimerExpiry peer => Sys2Proof.Machine.execPeerTimerExpiry peer s
  | .staleTimerExpiry peer item => Sys2Proof.Machine.execStaleTimerExpiry peer item s
  | .doffWindowExpiry => Sys2Proof.Machine.execDoffWindowExpiry s
  | .trainWindowExpiry => Sys2Proof.Machine.execTrainWindowExpiry s
  | .holdOffExpiry => Sys2Proof.Machine.execHoldOffExpiry s
  | .trainWaitExpiry group => Sys2Proof.Machine.execTrainWaitExpiry group s
  | .creelMaxExpiry group => Sys2Proof.Machine.execCreelMaxExpiry group s
  | .doffDoneRise => Sys2Proof.Machine.execDoffDoneRise s
  | .doffTimerExpiry => Sys2Proof.Machine.execDoffTimerExpiry s
  | .restartLimitExpiry => Sys2Proof.Machine.execRestartLimitExpiry s
  | .shiftEndReached => Sys2Proof.Machine.execShiftEndReached s
  | .reportTimerExpiry shift => Sys2Proof.Machine.execReportTimerExpiry shift s
  | .backoffCountdownStopped counted => Sys2Proof.Machine.execBackoffCountdownStopped counted s

end Sys2Proof.Machine
end

