-- ==== Sys2Proof/Machine/Tick.lean ====
section
/-! DEFINITION. One millisecond of the station's time base with no command waiting: the floor clock
steps, the interval timers run, and what has come due happens (00_scope.md, 6.4; R118;
DESIGN CHOICE, notes/assumptions/1.md). -/

namespace Sys2Proof.Machine

open Sys2Proof.Config

/-! ### The timers run -/

def Chain.tick (c : Chain) : Chain :=
  { c with readTimer := tickTimer c.readTimer, passTimer := tickTimer c.passTimer }

def Carriage.tick (c : Carriage) : Carriage :=
  { c with
    exchangeTimer := tickTimer c.exchangeTimer
    answerTimer := tickTimer c.answerTimer
    silenceTimer := tickTimer c.silenceTimer
    jobTimer := tickTimer c.jobTimer }

def Peer.tick (p : Peer) : Peer :=
  { p with
    left := p.left - 1
    doffClaim := p.doffClaim.map fun c => { c with left := c.left - 1 }
    trainClaim := p.trainClaim.map fun c => { c with left := c.left - 1 }
    trainTake := p.trainTake.map fun c => { c with left := c.left - 1 } }

def Ssc.tick (x : Ssc) : Ssc :=
  { x with
    idleTimer := tickTimer x.idleTimer
    chains := { l := x.chains.l.tick, r := x.chains.r.tick } }

def Flc.tick (x : Flc) : Flc :=
  { x with
    clock := x.clock + 1
    peers := x.peers.map Peer.tick
    joinTimer := tickTimer x.joinTimer
    silentTimer := tickTimer x.silentTimer
    beaconTimer := tickTimer x.beaconTimer }

def Bcu.tick (x : Bcu) : Bcu :=
  { x with
    doff := x.doff.map fun r => { r with left := r.left - 1 }
    train := x.train.map fun r => { r with left := r.left - 1 }
    hold := x.hold.map fun h => { h with holdOff := tickTimer h.holdOff } }

/-- The clock steps and every running interval timer loses a millisecond. -/
def runTimers (s : State) : State :=
  { s with
    ssc := s.ssc.tick
    clc := { l := s.clc.l.tick, r := s.clc.r.tick }
    cmn := { s.cmn with groups := s.cmn.groups.map fun g => { g with timer := tickTimer g.timer } }
    flc := s.flc.tick
    bcu := s.bcu.tick
    dsq := { s.dsq with
      doffTimer := tickTimer s.dsq.doffTimer, limitTimer := tickTimer s.dsq.limitTimer }
    stu := { s.stu with
      records := s.stu.records.map fun r => { r with reportTimer := tickTimer r.reportTimer } } }

/-! ### What has come due -/

/-- A timer has run out. -/
def due (t : Option Nat) : Bool := t == some 0

/-- The expiries of one side's chain and carriage. -/
def sideExpiries (sd : Side) (s : State) : State :=
  let s1 := if due (s.ssc.chains.get sd).readTimer then readAnswerTimeout sd s else s
  let s2 := if due (s1.ssc.chains.get sd).passTimer then passTimerExpiry sd s1 else s1
  let s3 := if due (s2.clc.get sd).answerTimer then modCar sd Carriage.unanswered s2 else s2
  let s4 := if due (s3.clc.get sd).jobTimer then jobExpiry sd s3 else s3
  let s5 := if due (s4.clc.get sd).silenceTimer then silenceExpiry sd s4 else s4
  if due (s5.clc.get sd).exchangeTimer then modCar sd Carriage.exchangeNow s5 else s5

/-- The expiry of one group's state timer. -/
def groupExpiry (s : State) (index : Nat) : State :=
  match s.group? index with
  | some g =>
    if due g.timer then creelMaxExpiry index (trainWaitExpiry index s) else s
  | none => s

/-- The stale items of a peer, in the order in which they are tested. -/
def allItems : List StaleItem := [.doffClaim, .trainClaim, .trainTake]

/-- An item's stale timer has run out. -/
def Peer.staleDue (p : Peer) : StaleItem → Bool
  | .doffClaim => p.doffClaim.any fun c => c.left == 0
  | .trainClaim => p.trainClaim.any fun c => c.left == 0
  | .trainTake => p.trainTake.any fun c => c.left == 0

/-- The expiry of one item of a peer's entry. -/
def itemExpiry (id : Nat) (s : State) (item : StaleItem) : State :=
  if s.flc.peers.any (fun p => p.id == id && p.staleDue item) then staleTimerExpiry id item s else s

/-- The expiries of one peer's entry. -/
def peerExpiry (s : State) (id : Nat) : State :=
  if s.flc.peers.any (fun p => p.id == id && p.left == 0) then peerTimerExpiry id s
  else allItems.foldl (itemExpiry id) s

/-- The expiry of one record's report timer. -/
def reportExpiry (s : State) (shift : Nat) : State :=
  match s.record? shift with
  | some r => if due r.reportTimer then reportTimerExpiry shift s else s
  | none => s

/-- The expiries of the frame-wide timers of the scanner, the link, the claims and the doff. -/
def frameExpiries (s : State) : State :=
  let s1 := if due s.ssc.idleTimer then idleTimerExpiry s else s
  let s2 := if due s1.flc.joinTimer then joinTimerExpiry s1 else s1
  let s3 := if due s2.flc.silentTimer then silentTimerExpiry s2 else s2
  let s4 := if due s3.flc.beaconTimer then beaconTimerExpiry s3 else s3
  let s5 := if s4.bcu.doff.any (fun r => r.left == 0) then doffWindowExpiry s4 else s4
  let s6 := if s5.bcu.train.any (fun r => r.left == 0) then trainWindowExpiry s5 else s5
  let s7 := if s6.bcu.hold.any (fun h => due h.holdOff) then holdOffExpiry s6 else s6
  let s8 := if due s7.dsq.doffTimer then doffTimerExpiry s7 else s7
  if due s8.dsq.limitTimer then restartLimitExpiry s8 else s8

/-- Everything that has come due, in the model's order (DESIGN CHOICE, notes/assumptions/1.md). -/
def expiries (s : State) : State :=
  let s1 := clockJumped s
  let s2 := frameExpiries (sideExpiries .R (sideExpiries .L s1))
  let s3 := ((List.range s2.cmn.groups.length).map (· + 1)).foldl groupExpiry s2
  let s4 := (s3.flc.peers.map Peer.id).foldl peerExpiry s3
  (s4.stu.records.map ClosedRecord.shift).foldl reportExpiry s4

/-- One millisecond. -/
def tick (s : State) : State := expiries (runTimers s)

end Sys2Proof.Machine
end

