-- ==== Sys2Proof/Safety.lean ====
section
/-! DEFINITION. The words that claims about the station use: what a request and its answer look like,
and the invariants of the machine that the manual states. -/

namespace Sys2Proof.Machine

open Sys2Proof.Config

/-! ### Requests and answers -/

/-- The bytes after the request code for a payload (R177). -/
def framed (p : List Byte) : List Byte := beBytes 2 p.length ++ p

/-- The station serves a request: it is configured, and no RESTART is being served (R178). -/
def State.serving (s : State) : Prop := s.configured = true ∧ s.hpt.restarting = false

/-- The station with an answer made and READY asserted, the answer before it discarded (R177,
R178). -/
def State.answered (s : State) (code : Byte) (st : Status) (p : Payload) (bytes : List Byte) :
    State :=
  { s with hpt := { s.hpt with
      current := some { code := code, status := st, payload := p, bytes := bytes }
      ready := true
      discarded :=
        if s.hpt.current.isSome then min (s.hpt.discarded + 1) max32 else s.hpt.discarded } }

/-- The command of a write by its request code and the bytes after it (R178, R183). -/
def requestOf (code : Byte) (body : List Byte) : Instr :=
  match code.toNat with
  | 0x01 => .configure body
  | 0x02 => .restart body
  | 0x03 => .readStatus body
  | 0x04 => .readDelta body
  | 0x05 => .readShift body
  | 0x06 => .readTally body
  | 0x07 => .copySpindles body
  | 0x08 => .copyNext body
  | 0x09 => .find body
  | 0x0A => .readBreaks body
  | 0x0B => .readCarriage body
  | 0x0C => .clearOutcomes body
  | 0x0D => .carriageConnect body
  | 0x0E => .carriageRelease body
  | 0x0F => .readCreel body
  | 0x10 => .creelDone body
  | 0x11 => .tenterClear body
  | 0x12 => .forceDoff body
  | 0x13 => .readPeers body
  | 0x14 => .readAttention body
  | 0x15 => .ackAttention body
  | 0x16 => .setAttentionEnable body
  | 0x17 => .probeStart body
  | 0x18 => .readProbe body
  | _ => .unknownRequest (code :: body)

/-- The payload length that R183 gives a request code. -/
def requestLength (code length : Nat) : Bool :=
  match code with
  | 0x01 => length ≤ 120
  | 0x05 => length == 1
  | 0x06 => length == 1
  | 0x07 => length == 4
  | 0x09 => length == 14
  | 0x0A => length == 1
  | 0x0B => length == 1
  | 0x0C => length == 1
  | 0x0D => length == 1
  | 0x0E => length == 1
  | 0x0F => length == 2
  | 0x10 => length == 1
  | 0x11 => length == 2
  | 0x15 => length == 2
  | 0x16 => length == 2
  | 0x17 => length == 2
  | _ => length == 0

/-- The byte of a side in a request (R183). -/
def Side.byte : Side → Byte
  | .L => 0
  | .R => 1

/-- What a receiver reads in a message of this station, composed in state s (R115, R121). -/
def Msg.heard (s : State) : Msg → Content
  | .status => .status s.dsq.phase.code
  | .doffClaim u => .doffClaim (u % 2 ^ 48)
  | .doffYield => .doffYield
  | .doffStart => .doffStart
  | .doffEnd => .doffEnd
  | .trainClaim t g u => .trainClaim (t % 2 ^ 16) (g % 2 ^ 8) (min u 65535)
  | .trainYield t => .trainYield (t % 2 ^ 16)
  | .trainTake t g => .trainTake (t % 2 ^ 16) (g % 2 ^ 8)
  | .shiftClose n => .shiftClose (n % 2 ^ 32)
  | .shiftReport n good _ mass _ _ _ =>
    .shiftReport (n % 2 ^ 32) (good % 2 ^ 32) (mass % 2 ^ 32)

/-! ### Attention -/

/-- The station after an event of an enabled class in LEVEL mode: pending, and one more counted
(R187). -/
def State.noted (s : State) (c : AttnClass) : State :=
  { s with atc := { s.atc with
      classes := s.atc.classes.set c
        { pending := true
          count := min ((s.atc.classes.get c).count + 1) 255
          enabled := (s.atc.classes.get c).enabled } } }

/-- The class is enabled and the line mode is LEVEL, so that State.noted is all an event does. -/
def State.plainAttention (s : State) (c : AttnClass) : Prop :=
  s.atc.mode = .level ∧ (s.atc.classes.get c).enabled = true

/-! ### The cold state until CONFIGURE -/

/-- Before CONFIGURE is accepted every block stands in its cold state but for what R2, R118, R177 and
R178 let move: the two pulse counters, the floor clock and the port. -/
def ColdUntilConfigured (s : State) : Prop :=
  s.cfg = none →
    s = { State.reset with
          ssc := { Ssc.cold with tin := s.ssc.tin, fr := s.ssc.fr }
          flc := { Flc.cold with clock := s.flc.clock }
          hpt := { s.hpt with restarting := false, waiting := [], copy := none, cause := .cold }
          pins := s.pins
          free := s.free
          pending := s.pending }

/-! ### The doff (R148, R149, R151, R155, R157, R159) -/

/-- The claim, the hold record, the lines, the stamps and the timers agree with the doff phase. -/
structure DoffAgrees (s : State) : Prop where
  claim : s.bcu.doff.isSome = true ↔ s.dsq.phase = .claiming
  hold : s.bcu.hold.isSome = true ↔ s.dsq.phase = .holding
  doffGo : s.dsq.doffGo = true ↔ s.dsq.phase = .doffing
  stopReq : s.dsq.stopReq = true ↔ s.dsq.overfull = true ∧ s.dsq.phase.atTarget = true
  overfull : s.dsq.overfull = true → s.dsq.phase ≠ .spinning ∧ s.dsq.phase ≠ .prewarn
  due : s.dsq.due.isSome = true ↔ s.dsq.phase.atTarget = true
  basis : s.dsq.basis.isSome = true ↔ s.dsq.phase = .prewarn
  expected : s.dsq.expected.isSome = true → s.dsq.phase = .prewarn
  doffTimer : s.dsq.doffTimer.isSome = true ↔ s.dsq.phase = .doffing ∧ s.dsq.longDoff = false
  limitTimer : s.dsq.limitTimer.isSome = true ↔ s.dsq.phase = .restarting

/-! ### Accepted messages (R113, R116 to R119) -/

/-- A received frame carries the accepted message f. The link is not OFF, where nothing is received, nor
SILENT, where a good frame also counts toward its end (R113, R116, R117, R126). -/
structure Heard (s : State) (bytes : List Byte) (f : Frame) : Prop where
  link : s.flc.link ≠ .off ∧ s.flc.link ≠ .silent
  free : s.readingBack = false
  good : frameGood bytes true = true
  form : parseFrame bytes = some f
  other : f.sender ≠ s.conf.stationId
  bay : inBay s.conf f.sender = true ∨ f.content.isShift = true

/-- The header of f moves nothing: its stamp is not ahead and its shift number is the station's own or
0 (R118, R168). -/
structure Level (s : State) (f : Frame) : Prop where
  stamp : f.stamp ≤ s.flc.clock + 2
  shift : f.shift = 0 ∨ f.shift = s.stu.number

/-- The kinds that act on their sender's entry alone (R130). -/
def Content.ofPeer : Content → Bool
  | .status _ => true
  | .doffClaim _ => true
  | .doffYield => true
  | .doffStart => true
  | .doffEnd => true
  | .trainClaim _ _ _ => true
  | .trainYield _ => true
  | .trainTake _ _ => true
  | _ => false

/-- What an accepted message of the kinds of Content.ofPeer leaves in its sender's entry p, the floor
clock standing at `now` (R129, R130). -/
def peerAfter (f : Frame) (now : Nat) (p : Peer) : Peer :=
  let q : Peer := { p with
    role := if f.rail then .rail else .frame
    lastHeard := now
    lastShift := f.shift
    left := 30000 }
  match f.content with
  | .status phase =>
    if phase = 3 then { q with phase := .claiming }
    else { q with phase := if phase = 5 then .doffing else .none, doffClaim := none }
  | .doffClaim u =>
    { q with phase := .claiming, doffClaim := some { urgency := u, left := 10000 } }
  | .doffYield => { q with phase := .none, doffClaim := none }
  | .doffStart => { q with phase := .doffing, doffClaim := none }
  | .doffEnd => { q with phase := .none }
  | .trainClaim train g u => { q with
      trainClaim := some { train := train, group := g, urgency := u, left := 10000 } }
  | .trainYield train =>
    { q with trainClaim := p.trainClaim.filter (fun c => c.train != train) }
  | .trainTake train g => { q with
      trainClaim := p.trainClaim.filter (fun c => c.train != train)
      trainTake := some { train := train, group := g, left := 10000 } }
  | _ => q

/-- The entry of a sender that the table has none of, before its message is taken (R129). -/
def peerNew (f : Frame) : Peer where
  id := f.sender
  role := .frame
  lastHeard := 0
  lastShift := 0
  phase := .none
  doffClaim := none
  trainClaim := none
  trainTake := none
  left := 0

/-! ### The floor line (R120 to R129) -/

/-- The timers, the slot and the queue agree with the link state. -/
structure LinkAgrees (s : State) : Prop where
  off : s.cfg = none ↔ s.flc.link = .off
  join : s.flc.joinTimer.isSome = true ↔ s.flc.link = .join
  silent : s.flc.silentTimer.isSome = true ↔ s.flc.link = .silent
  beacon : s.flc.beaconTimer.isSome = true ↔ s.flc.link.sends = true
  slot : s.flc.slot.isSome = true → s.flc.link.sends = true
  moved : s.flc.link.sends = true → s.flc.slot = none → s.flc.queue = []
  queued : s.flc.queue ≠ [] → s.flc.link.queues = true
  health : s.flc.health ≤ 255
  silentFrames : s.flc.link = .silent → s.flc.silentFrames < 32

/-- The queue holds at most 16 messages in class order, and at most one STATUS (R120). -/
structure QueueInOrder (s : State) : Prop where
  room : s.flc.queue.length ≤ queueMax
  order : s.flc.queue.Pairwise (fun a b => a.cls ≤ b.cls)
  oneStatus : s.flc.queue.count .status ≤ 1

/-- The backoff width lies in 8..256, and the slot's attempt count and slots left fit it (R121,
R122). -/
structure SlotInRange (s : State) : Prop where
  width : 8 ≤ s.flc.width ∧ s.flc.width ≤ 256
  attempts : ∀ sl, s.flc.slot = some sl → sl.attempts ≤ attemptsMax
  waiting : ∀ sl, s.flc.slot = some sl → sl.sending = none → sl.attempts < attemptsMax
  sending : ∀ sl, s.flc.slot = some sl → sl.sending.isSome = true → 1 ≤ sl.attempts
  slotsLeft : ∀ sl, s.flc.slot = some sl → sl.slotsLeft < s.flc.width

/-- The peer table holds at most 48 stations of the bay, in id order, and never the own id (R129). -/
structure PeersInOrder (s : State) : Prop where
  room : s.flc.peers.length ≤ peersMax
  order : s.flc.peers.Pairwise (fun a b => a.id < b.id)
  ids : ∀ p ∈ s.flc.peers, 1 ≤ p.id ∧ p.id ≤ 63
  others : ∀ p ∈ s.flc.peers, p.id ≠ s.conf.stationId ∧ inBay s.conf p.id = true

/-! ### The break lists (R29, R60) -/

/-- A side's list is in position order within its 64 places, and a spindle is in it exactly when its
listed flag is set, which only a BROKEN spindle's is. -/
structure ListAgrees (s : State) (sd : Side) : Prop where
  room : (s.bdp.get sd).entries.length ≤ listMax
  order : (s.bdp.get sd).entries.Pairwise (fun a b => a.position < b.position)
  listed : ∀ pos, (∃ e ∈ (s.bdp.get sd).entries, e.position = pos) ↔
    (s.spindle? sd pos).map Spindle.listed = some true
  broken : ∀ pos r, s.spindle? sd pos = some r → r.listed = true → r.state = .broken

/-! ### The carriages (R79, R80, R92 to R95) -/

/-- A carriage context agrees with its own parts, with the tier, with the doff phase and with the creel
groups: no job and no resume record lies in a CHANGING or STALLED group. -/
structure CarriageAgrees (s : State) (sd : Side) : Prop where
  held : (s.clc.get sd).held.isSome = true ↔ (s.clc.get sd).state = .suspect
  heldState : ∀ h, (s.clc.get sd).held = some h → h ≠ .suspect ∧ h ≠ .lost ∧ h ≠ .disconnected
  stage : (s.clc.get sd).stage = if (s.clc.get sd).state = .suspect then 1 else 0
  doffDemand : (s.clc.get sd).doffDemand = true ↔
    s.dsq.phase = .doffing ∨ s.dsq.phase = .restarting
  tierDemand : (s.clc.get sd).tierDemand = true ↔ s.ssc.tier ≠ .run
  parks : (s.clc.get sd).demand = true →
    (s.clc.get sd).eff ≠ .ready ∧ (s.clc.get sd).eff ≠ .dispatched
  resumed : (s.clc.get sd).eff = .parked → (s.clc.get sd).resumeTaken = true →
    (s.clc.get sd).demand = false
  resuming : (s.clc.get sd).outstandingIs .resume = true →
    (s.clc.get sd).eff ≠ .parking ∧
    ((s.clc.get sd).eff = .parked →
      (s.clc.get sd).demand = false ∧ (s.clc.get sd).resumeTaken = false)
  notBoth : (s.clc.get sd).job.isSome = true → (s.clc.get sd).record = none
  jobTimer : (s.clc.get sd).jobTimer.isSome = true ↔ (s.clc.get sd).job.isSome = true
  answerTimer : (s.clc.get sd).answerTimer.isSome = true ↔ (s.clc.get sd).exchange.isSome = true
  clear : ∀ pos, (∃ j, (s.clc.get sd).job = some j ∧ j.position = pos) ∨
      (∃ r, (s.clc.get sd).record = some r ∧ r.position = pos) →
    ∀ i g, s.group? i = some g → groupPlace s.n i = (sd, sectionOf pos) →
      g.state ≠ .changing ∧ g.state ≠ .stalled

/-! ### The tables (R3, R24, R44, R99) -/

/-- The records of each table are as many as the configuration gives; there are none before it. -/
structure TablesFit (s : State) : Prop where
  whole : s.configured = true → s.n = sectionSize * s.sections
  spindles : ∀ sd, (s.spt.spindles.get sd).length = if s.configured then s.n else 0
  deliveries : ∀ sd, (s.pcn.deliveries.get sd).length = if s.configured then s.sections else 0
  sections : ∀ sd, (s.ssc.chains.get sd).sections.length = if s.configured then s.sections else 0
  groups : s.cmn.groups.length = if s.configured then 2 * s.sections else 0

/-- Every cycle length is a 32-bit figure (R44). -/
def CyclesInRange (s : State) : Prop :=
  ∀ sd, ∀ d ∈ s.pcn.deliveries.get sd, d.cycle ≤ max32

/-- A length is a 32-bit figure of metres and a remainder below one metre (R48, R52). -/
def Length.inRange (x : Length) : Prop := x.m ≤ max32 ∧ x.mm < 1000

/-- The four lengths of the accumulators are in range (R48, R49, R52, R56). -/
def LengthsInRange (s : State) : Prop :=
  s.pcn.acc.good.inRange ∧ s.pcn.acc.slack.inRange ∧ s.pcn.acc.unobserved.inRange ∧
    s.pcn.acc.copSum.inRange

/-- No cop is longer than the cycle length of its section (R47). -/
def CopsWithinCycles (s : State) : Prop :=
  ∀ sd pos r d, s.spindle? sd pos = some r → s.delivery? sd (sectionOf pos) = some d →
    r.cop ≤ d.cycle

/-! ### The creel (R99 to R104) -/

/-- The estimate stays in its range, the timers agree with the states, and the one bid agrees with the
train slot (R99 to R104). -/
structure CreelAgrees (s : State) : Prop where
  remaining : ∀ g ∈ s.cmn.groups, g.remaining ≤ s.conf.rovingLenM * 1000
  timer : ∀ g ∈ s.cmn.groups,
    (g.timer.isSome = true ↔ g.state = .awaiting ∨ g.state = .changing)
  oneBid : s.cmn.groups.countP (fun g => g.state == .claiming || g.state == .awaiting) ≤ 1
  claim : ∀ i g, s.group? i = some g →
    (g.state = .claiming ↔ ∃ r, s.bcu.train = some r ∧ r.group = i)
  claimed : ∀ r, s.bcu.train = some r → ∃ g, s.group? r.group = some g ∧ g.train = some r.train

/-- Each group's out count is the number of its ROVING_OUT spindles (R102). -/
def OutCountsAgree (s : State) : Prop :=
  ∀ sd k g, 1 ≤ k → k ≤ s.sections → s.group? (groupIndex s.n sd k) = some g →
    g.out = countState (s.sectionSpindles sd k) .rovingOut

/-! ### Shifts (R166, R170, R173) -/

/-- A bay tally's count and sums are those of its entries, which are in id order (R173). -/
structure TallyAgrees (t : Tally) : Prop where
  count : t.count = t.entries.length
  room : t.entries.length ≤ tallyMax
  order : t.entries.Pairwise (fun a b => a.id < b.id)
  mass : t.massSum = (t.entries.map TallyEntry.mass).sum
  good : t.goodSum = (t.entries.map TallyEntry.good).sum

/-- The closed-shift records are at most four, newest first, all of shifts before the current one
(R165, R166, R170). -/
structure ShiftsInOrder (s : State) : Prop where
  room : s.stu.records.length ≤ recordsMax
  order : s.stu.records.Pairwise (fun a b => b.shift < a.shift)
  past : ∀ r ∈ s.stu.records, 1 ≤ r.shift ∧ r.shift < s.stu.number
  offered : ∀ r ∈ s.stu.records, (r.reportTimer.isSome = true ↔ r.offered = false)
  tallies : ∀ r ∈ s.stu.records, TallyAgrees r.tally

/-! ### Attention and the port (R177, R186, R187) -/

/-- FRAME_ALERT is enabled, and a class is pending exactly when its count, at most 255, is not 0
(R187). -/
structure AttentionAgrees (s : State) : Prop where
  alert : s.atc.classes.frameAlert.enabled = true
  counted : ∀ c, (s.atc.classes.get c).pending = true ↔ 0 < (s.atc.classes.get c).count
  bounded : ∀ c, (s.atc.classes.get c).count ≤ 255

/-- READY is asserted exactly while there is a current answer; there is none while a RESTART is being
served, and edges wait only then (R177, R178, R186). -/
structure PortAgrees (s : State) : Prop where
  ready : s.hpt.ready = s.hpt.current.isSome
  restarting : s.hpt.restarting = true → s.hpt.current = none ∧ s.configured = true
  waiting : s.hpt.waiting ≠ [] → s.hpt.restarting = true

/-! ### What a completed read leaves (R2 to R6, R45, R49) -/

/-- A chain is in the middle of a pass: the READ of a section that is not the last is in flight, and
the section has its record (R1, R7). -/
structure MidPass (s : State) (sd : Side) (k : Nat) (x : Section) (p : Pass) : Prop where
  reading : (s.ssc.chains.get sd).read.map ReadInFlight.section_ = some k
  record : s.section? sd k = some x
  inPass : (s.ssc.chains.get sd).pass = some p
  notLast : 1 ≤ k ∧ k < s.sections

/-- A chain is at the end of a pass: the READ of the side's last section is in flight (R7). -/
structure LastOfPass (s : State) (sd : Side) (k : Nat) (x : Section) (p : Pass) : Prop where
  reading : (s.ssc.chains.get sd).read.map ReadInFlight.section_ = some k
  record : s.section? sd k = some x
  inPass : (s.ssc.chains.get sd).pass = some p
  last : 1 ≤ k ∧ k = s.sections

/-- What a referenced read leaves in a spindle's evidence: its run ratio q, its evidence counters and its
quality runs; a spindle that leaves SENSOR_FAULT at the read has its counters at 0 (R14 to R16, R28). -/
structure EvidenceTaken (c : Cfg) (r r1 : Spindle) (q quality : Nat) : Prop where
  ratio : r1.ratio = some q
  lowRun : r1.lowRun = if quality < c.qualMin then min (r.lowRun + 1) 31 else 0
  goodRun : r1.goodRun = if quality < c.qualMin then 0 else min (r.goodRun + 1) 31
  counted : r.state ≠ .sensorFault ∨ r1.goodRun < c.qualPasses →
    r1.breakCount = (if q < c.breakLevel then min (r.breakCount + 1) 15 else 0) ∧
    r1.slackCount =
      (if c.breakLevel ≤ q ∧ q < c.slackLevel then min (r.slackCount + 1) 15 else 0) ∧
    r1.goodCount =
      (if c.breakLevel ≤ q ∧ c.slackLevel ≤ q then min (r.goodCount + 1) 15 else 0)
  left : r.state = .sensorFault → c.qualPasses ≤ r1.goodRun →
    r1.state = .unknown ∧ r1.breakCount = 0 ∧ r1.slackCount = 0 ∧ r1.goodCount = 0 ∧
    r1.attempts = 0

/-- The entry of a spindle has left its side's list, and the full-reported mark is clear (R63). Where the
drive is off and no BROKEN spindle waits unlisted, the list has lost that entry alone. -/
structure EntryGone (s t : State) (sd : Side) (pos : Nat) : Prop where
  gone : ∀ e ∈ (t.bdp.get sd).entries, e.position ≠ pos
  mark : (t.bdp.get sd).fullReported = false
  alone : s.pins.driveRun = false → ListAgrees s sd → s.unlisted sd = 0 →
    (t.bdp.get sd).entries = (s.bdp.get sd).entries.filter (fun e => e.position != pos) ∧
    t.clc = s.clc

/-- One spindle of the group i has left ROVING_OUT: the out count has fallen by one, and a group in FED
or LOW has been tested (R101, R102). -/
structure OutFallen (s t : State) (i : Nat) : Prop where
  group : ∀ g, s.group? i = some g → t.group? i = some { g with
    out := g.out - 1
    state :=
      if g.state = .fed ∨ g.state = .low then
        if g.remaining ≤ s.conf.rovingLowM * 1000 ∨ s.conf.outQuorum ≤ g.out - 1 then .low
        else .fed
      else g.state }
  others : ∀ j, j ≠ i → t.group? j = s.group? j
  rest : t.cmn.counts = s.cmn.counts ∧ t.bdp = s.bdp ∧ t.clc = s.clc ∧ t.pcn = s.pcn

/-- What the quality check leaves of a spindle r that enters SENSOR_FAULT (R27, R92). -/
structure SensorFaultEntered (s t : State) (sd : Side) (pos : Nat) (r : Spindle) : Prop where
  record : t.spindle? sd pos =
    some { r with state := .sensorFault, listed := false, verify := 0 }
  counted : t.spt.sensorFaults = min (s.spt.sensorFaults + 1) max32
  uncounted : t.pcn = s.pcn
  event : s.plainAttention .sensor → r.state ≠ .rovingOut → t.atc = (s.noted .sensor).atc
  broken : r.state = .broken → r.listed = true → EntryGone s t sd pos
  servicing : r.state = .servicing → t.bdp = s.bdp ∧ t.cmn = s.cmn ∧
    (∀ j, (s.clc.get sd).job = some j → j.position = pos →
      ((s.clc.get sd).eff = .dispatched → t.clc.get sd = { s.clc.get sd with
        job := none
        jobTimer := none
        lastOrder := (s.clc.get sd).lastOrder + 1
        outstanding := some { kind := .abandon, number := (s.clc.get sd).lastOrder + 1 } }) ∧
      ((s.clc.get sd).eff ≠ .dispatched →
        t.clc.get sd = { s.clc.get sd with job := none, jobTimer := none })) ∧
    (∀ k, (s.clc.get sd).job = none → (s.clc.get sd).record = some k → k.position = pos →
      t.clc.get sd = { s.clc.get sd with record := none })
  rovingOut : r.state = .rovingOut → OutFallen s t (groupIndex s.n sd (sectionOf pos))
  others : (r.state = .broken ∧ r.listed = false) ∨
      (r.state ≠ .broken ∧ r.state ≠ .servicing ∧ r.state ≠ .rovingOut) →
    t.bdp = s.bdp ∧ t.clc = s.clc ∧ t.cmn = s.cmn

/-- What a restoration leaves of a BROKEN, BLOCKED or ROVING_OUT spindle r (R31). -/
structure Restored (s t : State) (sd : Side) (pos : Nat) (r : Spindle) : Prop where
  record : t.spindle? sd pos =
    some { r with state := .running, listed := false, verify := 0, attempts := 0 }
  pieced : r.state ≠ .rovingOut →
    t.pcn.acc = { s.pcn.acc with tenterPieced := min (s.pcn.acc.tenterPieced + 1) max32 } ∧
    t.pcn.delta.pieced = min (s.pcn.delta.pieced + 1) max32 ∧ t.pcn.delta.fresh = true
  broken : r.state = .broken → r.listed = true → EntryGone s t sd pos
  rovingOut : r.state = .rovingOut → OutFallen s t (groupIndex s.n sd (sectionOf pos))
  others : r.state = .blocked ∨ (r.state = .broken ∧ r.listed = false) →
    t.bdp = s.bdp ∧ t.clc = s.clc ∧ t.cmn = s.cmn

/-- The spindle's new end did not come up at a restart judgement of kind COMPLETE (R38). -/
def Spindle.stayedDown (r : Spindle) : Bool :=
  r.state == .doffWait && r.ratio.isSome && r.goodCount == 0

/-- What a restart judgement of kind COMPLETE leaves of the spindles and the lists (R38). -/
structure JudgedComplete (s t : State) : Prop where
  unseen : ∀ sd pos r, s.spindle? sd pos = some r → r.state = .doffWait → r.ratio = none →
    t.spindle? sd pos =
      some { r with state := .unknown, listed := false, verify := 0, attempts := 0 }
  up : ∀ sd pos r, s.spindle? sd pos = some r → r.state = .doffWait → r.ratio.isSome = true →
    1 ≤ r.goodCount → t.spindle? sd pos =
      some { r with state := .running, listed := false, verify := 0, attempts := 0 }
  down : ∀ sd pos r, s.spindle? sd pos = some r → r.stayedDown = true →
    ∃ l, t.spindle? sd pos =
        some { r with state := .broken, listed := l, verify := 0, attempts := 0 } ∧
      (l = true → { position := pos, arrival := s.flc.clock, notBefore := none } ∈
        (t.bdp.get sd).entries) ∧
      ((s.bdp.get sd).entries.length +
          (s.spt.spindles.get sd).countP Spindle.stayedDown ≤ listMax → l = true)
  others : ∀ sd pos r, s.spindle? sd pos = some r → r.state ≠ .doffWait →
    t.spindle? sd pos = some r
  counted : s.pcn.acc.restartEndDowns ≤ max32 → t.pcn.acc.restartEndDowns =
    min (s.pcn.acc.restartEndDowns +
      (s.spt.spindles.l ++ s.spt.spindles.r).countP Spindle.stayedDown) max32
  noBreak : t.pcn.acc.breaks = s.pcn.acc.breaks

/-- What the observed delivery of a referenced read leaves, from the states its spindles are left in
(R45, R47, R48, R50). -/
structure ObservedCredit (s t : State) (sd : Side) (k : Nat) (d : Delivery) (f0 : W32)
    (whole cycle : Nat) : Prop where
  delivery : t.delivery? sd k =
    some { cycle := cycle
           remainder := (d.remainder + (s.ssc.fr - f0).toNat * s.conf.frUm) % 1000 }
  cops : ∀ i r r1, i < 24 → s.spindle? sd (24 * (k - 1) + i) = some r →
    t.spindle? sd (24 * (k - 1) + i) = some r1 →
    r1.cop = if r1.state = .running ∨ r1.state = .slack then min (r.cop + whole) cycle else r.cop
  good : t.pcn.acc.good =
    s.pcn.acc.good.add (whole * countState (t.sectionSpindles sd k) .running)
  slack : t.pcn.acc.slack =
    s.pcn.acc.slack.add (whole * countState (t.sectionSpindles sd k) .slack)
  goodDelta : t.pcn.delta.goodMm =
    min (s.pcn.delta.goodMm + whole * countState (t.sectionSpindles sd k) .running) max32
  slackDelta : t.pcn.delta.slackMm =
    min (s.pcn.delta.slackMm + whole * countState (t.sectionSpindles sd k) .slack) max32
  unobserved : t.pcn.acc.unobserved = s.pcn.acc.unobserved
  running : t.pcn.acc.running =
    min (s.pcn.acc.running + (countState (t.sectionSpindles sd k) .running +
      countState (t.sectionSpindles sd k) .slack)) max64
  possible : t.pcn.acc.possible =
    min (s.pcn.acc.possible +
      (t.sectionSpindles sd k).countP (fun r => r.state != .sensorFault)) max64

/-- The READ that asks a section of a side, with the step its record holds, and its two bytes on the
chain (R1, R7). -/
def State.readOf (s : State) (sd : Side) (k : Nat) : ReadInFlight :=
  let step := ((s.section? sd k).map Section.step).getD 8
  { section_ := k, step := step, sent := [BitVec.ofNat 8 k, BitVec.ofNat 8 step] }

/-- What a measuring read leaves of the probe (R18, R19): an empty capture is filled from the spindle that
the index names, where it lies in the section read, and the index moves on; the ratio is present where
`ref` holds the expected passes of a referenced read. -/
structure ProbeTaken (s t : State) (sd : Side) (k : Nat) (base : List W16) (a : NodeAnswer)
    (tin fr pExp : Nat) (ref : Option Nat) : Prop where
  filled : ∀ num pos, s.ssc.probeIndex = some num → s.ssc.capture = none →
    spindlePlace s.n num = (sd, pos) → 24 * (k - 1) ≤ pos → pos < 24 * k →
    t.ssc.capture = some
      { spindle := num
        c := (a.counts.getD (pos - 24 * (k - 1)) 0 - base.getD (pos - 24 * (k - 1)) 0).toNat
        quality := a.qualities.getD (pos - 24 * (k - 1)) 0
        t := tin
        f := some fr
        pExp := min pExp max32
        q := ref.map fun e => min 1999
          (1000 * (a.counts.getD (pos - 24 * (k - 1)) 0 -
            base.getD (pos - 24 * (k - 1)) 0).toNat / e) } ∧
    t.ssc.probeIndex = some (if num < 2 * s.n then num + 1 else 1)
  kept : s.ssc.probeIndex = none ∨ s.ssc.capture.isSome = true ∨
      (∃ num, s.ssc.probeIndex = some num ∧ ((spindlePlace s.n num).1 ≠ sd ∨
        (spindlePlace s.n num).2 < 24 * (k - 1) ∨ 24 * k ≤ (spindlePlace s.n num).2)) →
    t.ssc.capture = s.ssc.capture ∧ t.ssc.probeIndex = s.ssc.probeIndex

/-- After the completion the READ of the next section is in flight (R7). -/
def NextInFlight (s t : State) (sd : Side) (k : Nat) : Prop :=
  (t.ssc.chains.get sd).read = some (s.readOf sd (k + 1)) ∧
  (t.ssc.chains.get sd).readTimer = some readTimeoutMs

/-! ### What a credit hands on (R100, R101, R147, R150 to R152, R155) -/

/-- The creel group meets the LOW condition (R101). -/
def Group.runsLow (c : Cfg) (g : Group) : Prop :=
  g.remaining ≤ c.rovingLowM * 1000 ∨ c.outQuorum ≤ g.out

/-- A group's estimate and carry after a credit of `whole` millimetres (R100). -/
def Group.drawn (c : Cfg) (whole : Nat) (g : Group) : Group :=
  { g with
    remaining := g.remaining - (whole * 10 + g.carry) / c.draftX10
    carry := (whole * 10 + g.carry) % c.draftX10 }

/-- A credit of `whole` millimetres has reached the group i: it is drawn down, and a FED group that runs
low is LOW, with a CREEL event (R100, R101). -/
structure GroupCredited (s t : State) (i whole : Nat) : Prop where
  low : ∀ g, s.group? i = some g → g.state = .fed → (g.drawn s.conf whole).runsLow s.conf →
    t.group? i = some { g.drawn s.conf whole with state := .low } ∧
    (s.plainAttention .creel →
      t.atc.classes.get .creel = (s.noted .creel).atc.classes.get .creel)
  kept : ∀ g, s.group? i = some g →
    g.state ≠ .fed ∨ ¬(g.drawn s.conf whole).runsLow s.conf →
    t.group? i = some (g.drawn s.conf whole) ∧
    t.atc.classes.get .creel = s.atc.classes.get .creel
  others : ∀ j, j ≠ i → t.group? j = s.group? j
  counts : t.cmn.counts = s.cmn.counts

/-- The station has started the doff claim of an urgency, the claim unit having been b before it (R137,
R152). -/
def ClaimStarted (s t : State) (b : Bcu) (urgency : Nat) : Prop :=
  t.bcu = { b with
    doff := some { urgency := urgency, left := s.conf.claimWindowMs }
    counts := { b.counts with doffClaims := min (b.counts.doffClaims + 1) max32 } } ∧
  t.flc = (offer (.doffClaim urgency) s).flc

/-- What the sequencer does at a credit that leaves doff progress p, with the prewarn, due and overfull
levels (R147, R150 to R152, R155). -/
structure DoffToward (s t : State) (p prewarn due overfull : Nat) : Prop where
  /-- Below the next level, and in DOFFING and RESTARTING, progress alone changes. -/
  short : s.dsq.phase = .doffing ∨ s.dsq.phase = .restarting ∨
      (s.dsq.phase = .spinning ∧ p < prewarn ∧ p < due) ∨
      ((s.dsq.phase = .claiming ∨ s.dsq.phase = .holding ∨
          (s.dsq.phase = .due ∧ s.flc.link.sends = false)) ∧
        (p < overfull ∨ s.dsq.overfull = true)) →
    t.dsq = { s.dsq with progress := p } ∧ t.bcu = s.bcu ∧ t.flc = s.flc ∧
    t.atc.classes.get .doff = s.atc.classes.get .doff
  forewarned : s.dsq.phase = .spinning → prewarn ≤ p → p < due →
    t.dsq = { s.dsq with
      progress := p
      phase := .prewarn
      basis := some (s.flc.clock, p)
      counts := { s.dsq.counts with
        prewarnings := min (s.dsq.counts.prewarnings + 1) max32 } } ∧
    t.bcu = s.bcu ∧ t.flc = s.flc ∧
    (s.plainAttention .doff →
      t.atc.classes.get .doff = (s.noted .doff).atc.classes.get .doff)
  expected : ∀ t0 p0, s.dsq.phase = .prewarn → p < due → s.dsq.basis = some (t0, p0) →
    t.dsq = { s.dsq with
      progress := p
      expected :=
        if p0 < p ∧ t0 < s.flc.clock then
          some (min (s.flc.clock + (due - p) * (s.flc.clock - t0) / (p - p0)) (2 ^ 48 - 1))
        else s.dsq.expected } ∧
    t.bcu = s.bcu ∧ t.flc = s.flc ∧ t.atc.classes.get .doff = s.atc.classes.get .doff
  /-- The entry to DUE short of the overfull level, with the claim where the link sends. -/
  reached : s.dsq.phase = .spinning ∨ s.dsq.phase = .prewarn → due ≤ p → p < overfull →
    s.dsq.overfull = false →
    t.dsq = { s.dsq with
      progress := p
      phase := if s.flc.link.sends = true then .claiming else .due
      due := some s.flc.clock
      basis := none
      expected := none
      counts := { s.dsq.counts with dues := min (s.dsq.counts.dues + 1) max32 } } ∧
    (s.flc.link.sends = true → ClaimStarted s t s.bcu s.flc.clock) ∧
    (s.flc.link.sends = false → t.bcu = s.bcu ∧ t.flc = s.flc) ∧
    (s.plainAttention .doff →
      t.atc.classes.get .doff = (s.noted .doff).atc.classes.get .doff)
  /-- The entry to DUE past the overfull level: the claim has urgency 0. -/
  passed : s.dsq.phase = .spinning ∨ s.dsq.phase = .prewarn → due ≤ p → overfull ≤ p →
    s.dsq.overfull = false →
    t.dsq = { s.dsq with
      progress := p
      phase := if s.flc.link.sends = true then .claiming else .due
      due := some s.flc.clock
      basis := none
      expected := none
      overfull := true
      stopReq := true
      counts := { s.dsq.counts with
        dues := min (s.dsq.counts.dues + 1) max32
        overfulls := min (s.dsq.counts.overfulls + 1) max32 } } ∧
    (s.flc.link.sends = true → ClaimStarted s t s.bcu 0) ∧
    (s.flc.link.sends = false → t.bcu = s.bcu ∧ t.flc = s.flc) ∧
    (s.plainAttention .doff →
      t.atc.classes.get .doff = ((s.noted .doff).noted .doff).atc.classes.get .doff)
  /-- The frame becomes overfull at its target, no claim starting. -/
  overran : overfull ≤ p → s.dsq.overfull = false →
    (s.dsq.phase = .claiming ∨ (s.dsq.phase = .due ∧ s.flc.link.sends = false) →
      t.dsq = { s.dsq with
        progress := p
        overfull := true
        stopReq := true
        counts := { s.dsq.counts with
          overfulls := min (s.dsq.counts.overfulls + 1) max32 } } ∧
      t.bcu = s.bcu ∧ t.flc = s.flc) ∧
    (∀ h, s.dsq.phase = .holding → s.bcu.hold = some h →
      (h.holdOff.isSome = true ∨ s.flc.link.sends = false ∨ s.conf.doffLimit ≤ s.dCount 0 →
        t.dsq = { s.dsq with
          progress := p
          overfull := true
          stopReq := true
          counts := { s.dsq.counts with
            overfulls := min (s.dsq.counts.overfulls + 1) max32 } } ∧
        t.bcu = { s.bcu with hold := some { h with urgency := 0 } } ∧ t.flc = s.flc) ∧
      (h.holdOff = none → s.flc.link.sends = true → s.dCount 0 < s.conf.doffLimit →
        t.dsq = { s.dsq with
          progress := p
          phase := .claiming
          overfull := true
          stopReq := true
          counts := { s.dsq.counts with
            overfulls := min (s.dsq.counts.overfulls + 1) max32 } } ∧
        ClaimStarted s t { s.bcu with
          hold := none
          counts := { s.bcu.counts with
            slotOpen := min (s.bcu.counts.slotOpen + 1) max32 } } 0)) ∧
    (s.dsq.phase = .claiming ∨ s.dsq.phase = .due ∨ s.dsq.phase = .holding →
      s.plainAttention .doff →
      t.atc.classes.get .doff = (s.noted .doff).atc.classes.get .doff)

/-- What a referenced read's credit of `whole` millimetres leaves of the group i of its section, whose
spindles the judgement may have taken out of ROVING_OUT first (R100 to R102). -/
structure GroupJudged (s t : State) (sd : Side) (k i whole : Nat) : Prop where
  group : ∀ g, s.group? i = some g → ∃ g1, t.group? i = some g1 ∧
    g1 = { g.drawn s.conf whole with
      state := g1.state
      out := g.out - (countState (s.sectionSpindles sd k) .rovingOut -
        countState (t.sectionSpindles sd k) .rovingOut) } ∧
    (g.state = .fed ∨ g.state = .low → g1.state = .fed ∨ g1.state = .low) ∧
    (g.state = .fed → (g1.state = .low ↔ g1.runsLow s.conf)) ∧
    (g.state = .low → g1.runsLow s.conf → g1.state = .low) ∧
    (g.state ≠ .fed → g.state ≠ .low → g1.state = g.state)
  exact : countState (s.sectionSpindles sd k) .rovingOut = 0 → GroupCredited s t i whole
  others : ∀ j, j ≠ i → t.group? j = s.group? j
  counts : t.cmn.counts = s.cmn.counts

/-- A credit that leaves a section with a cycle length has reached the Doff Sequencer (R147, R150). -/
def DoffCredited (s t : State) (cycle : Nat) : Prop :=
  DoffToward s t (max s.dsq.progress cycle)
    ((s.conf.doffTargetM - s.conf.doffLeadM) * 1000) (s.conf.doffTargetM * 1000)
    ((s.conf.doffTargetM + s.conf.doffOverrunM) * 1000)

/-- What a completion without a usable answer leaves (R4, R45, R49, R100, R150). -/
structure MissLeaves (s t : State) (sd : Side) (k : Nat) (x : Section) : Prop where
  record : t.section? sd k =
    some { snapshots := some (s.ssc.tin, s.ssc.fr)
           base := none
           step := x.step
           miss := min (x.miss + 1) 3
           lost := x.lost || 2 ≤ x.miss }
  lostEntries : t.ssc.counts.lostEntries =
    if x.lost = false ∧ 2 ≤ x.miss then min (s.ssc.counts.lostEntries + 1) max32
    else s.ssc.counts.lostEntries
  uncredited : x.snapshots = none → t.pcn = s.pcn ∧ t.cmn = s.cmn ∧ t.dsq = s.dsq
  credited : ∀ t0 f0 d, x.snapshots = some (t0, f0) → s.delivery? sd k = some d →
    t.delivery? sd k =
      some { cycle := min
               (d.cycle + (d.remainder + (s.ssc.fr - f0).toNat * s.conf.frUm) / 1000) max32
             remainder := (d.remainder + (s.ssc.fr - f0).toNat * s.conf.frUm) % 1000 } ∧
    t.pcn.acc = { s.pcn.acc with
      unobserved := s.pcn.acc.unobserved.add
        ((d.remainder + (s.ssc.fr - f0).toNat * s.conf.frUm) / 1000) } ∧
    t.pcn.delta = s.pcn.delta ∧
    GroupCredited s t (groupIndex s.n sd k)
      ((d.remainder + (s.ssc.fr - f0).toNat * s.conf.frUm) / 1000) ∧
    DoffCredited s t
      (min (d.cycle + (d.remainder + (s.ssc.fr - f0).toNat * s.conf.frUm) / 1000) max32)
  unchanged : t.cfg = s.cfg ∧ t.spt = s.spt ∧ t.bdp = s.bdp ∧ t.clc = s.clc ∧ t.stu = s.stu ∧
    t.hpt = s.hpt ∧ t.pins = s.pins ∧ t.pending = s.pending

/-! ### What a carriage answer and the end of a job leave (R75, R77, R78, R88, R95) -/

/-- The context after a valid answer without a report, before its status acts: the exchange is over, the
silence timer runs anew, the outstanding order is settled, the position has moved (R75, R77, R78, R81). -/
def Carriage.heardFrom (c : Carriage) (a : CarAnswer) (n : Nat) : Carriage :=
  { c with
    exchange := none
    answerTimer := none
    silenceTimer := some 1000
    outstanding := c.outstanding.filter (fun o => o.number != a.taken)
    resumeTaken := c.resumeTaken ||
      (c.eff == .parked && c.outstanding.any (fun o => o.kind == .resume && o.number == a.taken))
    position := min ((c.position : Int) + signed16 a.place).toNat (n - 1) }

/-- The context with an order of a kind issued (R77). -/
def Carriage.ordered (c : Carriage) (k : OrderKind) : Carriage :=
  { c with
    lastOrder := c.lastOrder + 1
    outstanding := some { kind := k, number := c.lastOrder + 1 } }

/-- The context at the entry to PARKED: an ABANDON is dropped, and RESUME is issued where no demand is
set and none is outstanding (R80, R95). -/
def Carriage.nowParked (c : Carriage) : Carriage :=
  let c1 := { c with
    state := .parked
    resumeTaken := false
    outstanding := c.outstanding.filter (fun o => o.kind != .abandon) }
  if c.doffDemand = true ∨ c.tierDemand = true ∨ c.outstanding.any (fun o => o.kind == .resume) then c1
  else c1.ordered .resume

/-- The context sent back to PARKING: PARK is issued unless it is outstanding (R95). -/
def Carriage.toPark (c : Carriage) : Carriage :=
  let c1 := { c with state := .parking }
  if c.outstanding.any (fun o => o.kind == .park) then c1 else c1.ordered .park

/-- The context with an outcome of a position taken at a floor time (R88). -/
def Carriage.withOutcome (c : Carriage) (k : Outcome) (pos now : Nat) : Carriage :=
  { c with
    outcomes := if k ∈ c.outcomes then c.outcomes else c.outcomes ++ [k]
    lastOutcome := some { kind := k, position := pos, stamp := now, disposition := .reported } }

/-- A spindle r whose job or record ended without a stamp is BROKEN again, and listed where the list had
a place (R33, R61, R62). -/
structure Relisted (s t : State) (sd : Side) (pos : Nat) (r : Spindle) : Prop where
  record : t.spindle? sd pos =
    some { r with
      state := .broken
      listed := decide ((s.bdp.get sd).entries.length < 64)
      verify := 0 }
  others : ∀ p, p ≠ pos → t.spindle? sd p = s.spindle? sd p
  entry : (s.bdp.get sd).entries.length < 64 →
    { position := pos, arrival := s.flc.clock, notBefore := none } ∈ (t.bdp.get sd).entries ∧
    ∀ e ∈ (s.bdp.get sd).entries, e.position ≠ pos → e ∈ (t.bdp.get sd).entries
  full : 64 ≤ (s.bdp.get sd).entries.length →
    (t.bdp.get sd).entries = (s.bdp.get sd).entries ∧ (t.bdp.get sd).fullReported = true
  uncounted : t.pcn = s.pcn

end Sys2Proof.Machine
end

