-- ==== Sys2Proof/Certificates/Slice0/Obligations.lean ====
section
/-! DEFINITION. The statements for the provers. Each docstring names the rules it rests on; a clause that
rests on a choice of the model names its log entry. -/

open Sys2Proof Sys2Proof.Machine Sys2Proof.Config

/-! ### The queue, the clock and the reset -/

/-- The step takes the command at the front of the queue and runs it on the station with the rest. -/
def Obligations.FrontCommandRuns : Prop :=
  ∀ (c : Instr) (rest : List Instr) (s : State),
    step { s with pending := c :: rest } = exec c { s with pending := rest }

/-- Every command completes: the station goes on working (00_scope.md, 6.8). That no command touches the
queue, COLD_RESET included, is the model's choice (notes/assumptions/10.md, 26.md). -/
def Obligations.EveryCommandKeepsTheQueue : Prop :=
  ∀ (c : Instr) (s : State), ∃ t, exec c s = .next t ∧ t.pending = s.pending

/-- The model's choice (notes/assumptions/1.md): a step on an empty queue is one millisecond. The floor
clock steps by one (R118), and no input, request or configuration changes. -/
def Obligations.IdleStepIsOneMillisecond : Prop :=
  ∀ s : State, s.pending = [] →
    ∃ t, step s = .next t ∧ t.flc.clock = s.flc.clock + 1 ∧ t.pending = [] ∧ t.cfg = s.cfg ∧
      t.hpt = s.hpt ∧ t.pins = s.pins

/-- R118: the floor clock never decreases, except that a cold reset sets it to 0. -/
def Obligations.FloorClockNeverGoesBack : Prop :=
  ∀ (c : Instr) (s t : State), exec c s = .next t →
    (c ≠ .coldReset → s.flc.clock ≤ t.flc.clock) ∧ (c = .coldReset → t.flc.clock = 0)

/-- R186: COLD_RESET puts every block in the cold state its chapter gives. That the two input levels, the
free-value index and the queue stand is the model's choice (notes/assumptions/5.md, 21.md, 26.md). -/
def Obligations.ColdResetGivesTheColdState : Prop :=
  ∀ s : State, ∃ t, exec .coldReset s = .next t ∧
    t = { State.reset with pins := s.pins, free := s.free, pending := s.pending } ∧
    t.cfg = none ∧
    (t.ssc.tin = 0 ∧ t.ssc.fr = 0 ∧ t.ssc.tier = .run ∧ t.ssc.idleTimer = none ∧
      t.ssc.probeIndex = none ∧ t.ssc.capture = none) ∧
    (t.spt.spindles = ⟨[], []⟩ ∧ t.spt.sensorFaults = 0) ∧
    (t.pcn.acc = Accum.zero ∧ t.pcn.delta = Delta.zero) ∧
    (∀ sd, (t.bdp.get sd).entries = [] ∧ (t.bdp.get sd).wake = none ∧
      (t.bdp.get sd).fullReported = false) ∧
    (∀ sd, (t.clc.get sd).state = .disconnected ∧ (t.clc.get sd).position = 0 ∧
      (t.clc.get sd).direction = .up ∧ (t.clc.get sd).lastOrder = 0 ∧
      (t.clc.get sd).outcomes = []) ∧
    t.cmn.groups = [] ∧
    (t.flc.link = .off ∧ t.flc.clock = 0 ∧ t.flc.health = 0 ∧ t.flc.width = 8 ∧
      t.flc.queue = [] ∧ t.flc.slot = none ∧ t.flc.peers = []) ∧
    (t.bcu.doff = none ∧ t.bcu.train = none ∧ t.bcu.hold = none) ∧
    (t.dsq.phase = .spinning ∧ t.dsq.progress = 0 ∧ t.dsq.overfull = false ∧
      t.dsq.doffGo = false ∧ t.dsq.stopReq = false) ∧
    (t.stu.number = 0 ∧ t.stu.records = []) ∧
    (t.hpt.current = none ∧ t.hpt.ready = false ∧ t.hpt.copy = none ∧ t.hpt.cause = .cold) ∧
    (t.atc.mode = .level ∧ t.atc.line = false ∧
      ∀ c, t.atc.classes.get c = { pending := false, count := 0, enabled := true })

/-! ### The invariants that every step keeps -/

/-- R22, R43, R58, R74, R79, R99, R133, R163, R176, R186: a station not yet configured stays in its
cold state but for its pulse counters, its floor clock and its port. -/
def Obligations.ColdUntilConfiguredIsKept : Prop :=
  ∀ s t : State, ColdUntilConfigured s → step s = .next t → ColdUntilConfigured t

/-- R148, R149, R155 to R160: the claim, the hold record, DOFF_GO, STOP_REQ, the stamps and the timers
agree with the doff phase after every step. -/
def Obligations.DoffAgreesIsKept : Prop :=
  ∀ s t : State, DoffAgrees s → step s = .next t → DoffAgrees t

/-- R121, R123 to R128: the timers, the slot and the queue agree with the link state after every
step. -/
def Obligations.LinkAgreesIsKept : Prop :=
  ∀ s t : State, ColdUntilConfigured s → LinkAgrees s → step s = .next t → LinkAgrees t

/-- R120 to R122: the transmit queue keeps its room, its order and its one STATUS; the backoff width and
the slot's attempts keep their ranges. -/
def Obligations.TransmitSideStaysInRange : Prop :=
  ∀ s t : State, step s = .next t →
    (QueueInOrder s → QueueInOrder t) ∧ (SlotInRange s → SlotInRange t)

/-- R129: the peer table keeps its room, its order and its membership. -/
def Obligations.PeersInOrderIsKept : Prop :=
  ∀ s t : State, ColdUntilConfigured s → PeersInOrder s → step s = .next t → PeersInOrder t

/-- R29, R60: a spindle is in its side's list exactly when its listed flag is set, after every step. -/
def Obligations.ListAgreesIsKept : Prop :=
  ∀ (s t : State) (sd : Side), ListAgrees s sd → step s = .next t → ListAgrees t sd

/-- R67, R79, R80, R81, R92 to R95: each carriage context agrees with itself, with the tier, with the doff
phase and with the creel groups after every step; so it is never in DISPATCHED in DOFFING or RESTARTING,
nor with a job whose spindle lies in a group that is CHANGING or STALLED. -/
def Obligations.CarriageAgreesIsKept : Prop :=
  ∀ (s t : State) (sd : Side), ColdUntilConfigured s → DoffAgrees s → CarriageAgrees s sd →
    step s = .next t →
    CarriageAgrees t sd ∧
      ((t.dsq.phase = .doffing ∨ t.dsq.phase = .restarting) → (t.clc.get sd).eff ≠ .dispatched) ∧
      (∀ j i g, (t.clc.get sd).job = some j → t.group? i = some g →
        groupPlace t.n i = (sd, sectionOf j.position) →
        g.state ≠ .changing ∧ g.state ≠ .stalled)

/-- R3, R24, R44, R47, R48, R52, R99: each table keeps as many records as the configuration gives, every
cycle length and every length of the accumulators stays in its range, and no spindle's cop length
exceeds the cycle length of its section, after every step. -/
def Obligations.TablesAndCopsFitIsKept : Prop :=
  (∀ s t : State, ColdUntilConfigured s → TablesFit s → step s = .next t → TablesFit t) ∧
  (∀ s t : State, step s = .next t →
      (CyclesInRange s → CyclesInRange t) ∧ (LengthsInRange s → LengthsInRange t)) ∧
  (∀ s t : State, ColdUntilConfigured s → TablesFit s → CyclesInRange s → CopsWithinCycles s →
      step s = .next t → CopsWithinCycles t)

/-- R99 to R104: the estimates stay in range, and there is at most one bid, which agrees with the train
slot, and each group's out count stays the number of its ROVING_OUT spindles, after every step. -/
def Obligations.CreelAndOutCountsAgreeIsKept : Prop :=
  (∀ s t : State, ColdUntilConfigured s → CreelAgrees s → step s = .next t → CreelAgrees t) ∧
  (∀ s t : State, ColdUntilConfigured s → TablesFit s → ListAgrees s .L → ListAgrees s .R →
      OutCountsAgree s → step s = .next t → OutCountsAgree t)

/-- R165, R166, R170, R173: the closed-shift records and their tallies keep their order and sums. -/
def Obligations.ShiftsInOrderIsKept : Prop :=
  ∀ s t : State, ShiftsInOrder s → step s = .next t → ShiftsInOrder t

/-- R187: FRAME_ALERT stays enabled, and a class is pending exactly when its count is not 0. R177, R178,
R186: READY stays asserted exactly while there is a current answer, and there is none while a RESTART
is being served. -/
def Obligations.AttentionAndPortAgreeIsKept : Prop :=
  ∀ s t : State, step s = .next t →
    (AttentionAgrees s → AttentionAgrees t) ∧ (PortAgrees s → PortAgrees t)

/-- The station right after reset meets every invariant above. -/
def Obligations.ResetMeetsTheInvariants : Prop :=
  ColdUntilConfigured State.reset ∧ DoffAgrees State.reset ∧ LinkAgrees State.reset ∧
    QueueInOrder State.reset ∧ SlotInRange State.reset ∧ PeersInOrder State.reset ∧
    (∀ sd, ListAgrees State.reset sd) ∧ (∀ sd, CarriageAgrees State.reset sd) ∧
    TablesFit State.reset ∧ CyclesInRange State.reset ∧ LengthsInRange State.reset ∧
    CopsWithinCycles State.reset ∧ CreelAgrees State.reset ∧ OutCountsAgree State.reset ∧
    ShiftsInOrder State.reset ∧ AttentionAgrees State.reset ∧ PortAgrees State.reset

/-! ### The frame's lines and the tiers -/

/-- R2: each rising edge steps its counter, which wraps from 4,294,967,295 to 0, and changes nothing
else, whatever the state. -/
def Obligations.PulseEdgesStepTheCounters : Prop :=
  ∀ s : State,
    exec .tinPulseEdge s = .next { s with ssc := { s.ssc with tin := s.ssc.tin + 1 } } ∧
    exec .frPulseEdge s = .next { s with ssc := { s.ssc with fr := s.ssc.fr + 1 } } ∧
    (s.ssc.tin.toNat = 4294967295 → (s.ssc.tin + 1).toNat = 0) ∧
    (s.ssc.tin.toNat < 4294967295 → (s.ssc.tin + 1).toNat = s.ssc.tin.toNat + 1)

/-- R10, R11, R68, R186: an edge of DRIVE_RUN starts the idle timer with IDLE_DOWN_S. Before
CONFIGURE a fall only sets the level; while a RESTART is being served it waits. A rise from SLOW or
DORMANT also returns the frame to RUN: each side's pass timer starts with PASS_MS, a side without a
pass starts one, a side with a pass owes one, and both tier demands are cleared. That an edge waits
from RESTART to RESTART_COMPLETE is the model's reading (notes/assumptions/4.md). -/
def Obligations.DriveEdgesMoveTheTier : Prop :=
  ((∀ s : State, s.serving →
      exec .driveRunFall s = .next { s with
        pins := { s.pins with driveRun := false }
        ssc := { s.ssc with idleTimer := some (s.conf.idleDownS * 1000) } }) ∧
    (∀ s : State, s.configured = false → s.hpt.restarting = false →
      exec .driveRunFall s = .next { s with pins := { s.pins with driveRun := false } }) ∧
    (∀ s : State, s.hpt.restarting = true →
      exec .driveRunFall s = .next { s with
        pins := { s.pins with driveRun := false }
        hpt := { s.hpt with waiting := s.hpt.waiting ++ [.driveFall] } })) ∧
  (∀ s : State, s.serving →
      ∃ t, exec .driveRunRise s = .next t ∧
        t.pins = { s.pins with driveRun := true } ∧
        t.ssc.tier = .run ∧ t.ssc.idleTimer = some (s.conf.idleDownS * 1000) ∧
        (s.ssc.tier = .run →
          t.ssc = { s.ssc with idleTimer := some (s.conf.idleDownS * 1000) }) ∧
        (s.ssc.tier ≠ .run → ∀ sd,
          (t.clc.get sd).tierDemand = false ∧
          (t.ssc.chains.get sd).passTimer = some s.conf.passMs ∧
          (t.ssc.chains.get sd).latePasses = (s.ssc.chains.get sd).latePasses ∧
          ((s.ssc.chains.get sd).pass = none →
            (t.ssc.chains.get sd).pass.map Pass.section_ = some 1 ∧
            (t.ssc.chains.get sd).read.map ReadInFlight.section_ = some 1 ∧
            (t.ssc.chains.get sd).owed = (s.ssc.chains.get sd).owed) ∧
          ((s.ssc.chains.get sd).pass.isSome = true →
            (t.ssc.chains.get sd).pass = (s.ssc.chains.get sd).pass ∧
            (t.ssc.chains.get sd).read = (s.ssc.chains.get sd).read ∧
            (t.ssc.chains.get sd).owed = true)) ∧
        t.cfg = s.cfg ∧ t.pcn = s.pcn ∧ t.cmn = s.cmn ∧ t.flc = s.flc ∧ t.bcu = s.bcu ∧
        t.dsq = s.dsq ∧ t.stu = s.stu ∧ t.hpt = s.hpt ∧ t.atc = s.atc ∧ t.free = s.free)

/-- R1, R8, R9, R10, R93: a pass timer starts again with the period of the tier, and a new pass starts, the
two bytes of its first READ going out on the chain, or is owed with a late pass counted. The idle timer of a frame whose drive is off takes it from RUN to SLOW,
where both carriages are told to park with suspension, and from SLOW to DORMANT. -/
def Obligations.ScanTimersExpire : Prop :=
  (∀ (s : State) (sd : Side) (left period : Nat),
      (s.ssc.chains.get sd).passTimer = some left →
      period = (match s.ssc.tier with
        | .run => s.conf.passMs
        | .slow => 8 * s.conf.passMs
        | .dormant => 60 * s.conf.passMs) →
      ((s.ssc.chains.get sd).pass = none →
        exec (.passTimerExpiry sd) s = .next (s.setChain sd
          { s.ssc.chains.get sd with
            passTimer := some period
            pass := some
              { section_ := 1, referenced := false, afterDoff := s.dsq.phase == .restarting }
            read := some (s.readOf sd 1)
            readTimer := some 5
            passes := min ((s.ssc.chains.get sd).passes + 1) max32 })) ∧
      ((s.ssc.chains.get sd).pass.isSome = true →
        exec (.passTimerExpiry sd) s = .next (s.setChain sd
          { s.ssc.chains.get sd with
            passTimer := some period
            owed := true
            latePasses := min ((s.ssc.chains.get sd).latePasses + 1) max32 }))) ∧
  (∀ (s : State) (left : Nat), s.ssc.idleTimer = some left →
      (s.pins.driveRun = true →
        exec .idleTimerExpiry s = .next { s with ssc := { s.ssc with idleTimer := none } }) ∧
      (s.pins.driveRun = false → s.ssc.tier = .slow →
        exec .idleTimerExpiry s = .next { s with
          ssc := { s.ssc with tier := .dormant, idleTimer := none } }) ∧
      (s.pins.driveRun = false → s.ssc.tier = .run →
        ∃ cars, exec .idleTimerExpiry s = .next { s with
            ssc := { s.ssc with
              tier := .slow, idleTimer := some (s.conf.dormantDownS * 1000) }
            clc := cars } ∧
          ∀ sd, (cars.get sd).tierDemand = true ∧
            ((s.clc.get sd).doffDemand = true →
              cars.get sd = { s.clc.get sd with tierDemand := true }) ∧
            ((s.clc.get sd).doffDemand = false → (s.clc.get sd).state = .ready →
              cars.get sd = { s.clc.get sd with
                tierDemand := true
                state := .parking
                lastOrder := (s.clc.get sd).lastOrder + 1
                outstanding := some
                  { kind := .park, number := (s.clc.get sd).lastOrder + 1 } }) ∧
            (∀ j, (s.clc.get sd).doffDemand = false → (s.clc.get sd).state = .dispatched →
              (s.clc.get sd).job = some j → j.seen ≠ some .piecing →
              (cars.get sd).state = .parking ∧ (cars.get sd).job = none ∧
              (cars.get sd).jobTimer = none ∧
              (cars.get sd).record = some
                { spindle := j.spindle, position := j.position, attempt := j.attempt
                  direction := (s.clc.get sd).direction })))

/-! ### The reads -/

/-- R1, R4, R7, R8, R45, R49, R100, R101, R147, R150 to R152, R155, R159: an unanswered read, and an answer
of at least 75 bytes whose echo or check byte disagrees, replace the snapshots, clear the base, count the
miss and credit the pulses as unobserved; the credit draws down the creel group, which may run low, and
moves the doff progress, the phase and the overfull flag. Then the next READ of the pass is sent. At the last section the pass ends: an owed pass
starts at once, and in restart evaluation the end of a referenced pass that began in it is counted.
That bytes after the 75th are discarded is the model's reading (notes/assumptions/11.md). -/
def Obligations.MissedReadsAreUnobserved : Prop :=
  (∀ (s : State) (sd : Side) (k : Nat) (x : Section) (p : Pass), MidPass s sd k x p →
    (∃ t, exec (.readAnswerTimeout sd) s = .next t ∧ MissLeaves s t sd k x ∧
      NextInFlight s t sd k ∧
      t.ssc.counts.unanswered = min (s.ssc.counts.unanswered + 1) max32 ∧
      t.ssc.counts.garbled = s.ssc.counts.garbled) ∧
    (∀ bytes : List Byte, 75 ≤ bytes.length →
      ((bytes.headD 0).toNat ≠ k ∨
        xorBytes (bytes.take 74) ≠ bytes.getD 74 0) →
      ∃ t, exec (.sectionReadAnswer sd bytes) s = .next t ∧ MissLeaves s t sd k x ∧
        NextInFlight s t sd k ∧
        t.ssc.counts.garbled = min (s.ssc.counts.garbled + 1) max32 ∧
        t.ssc.counts.unanswered = s.ssc.counts.unanswered)) ∧
  (∀ (s : State) (sd : Side) (k : Nat) (x : Section) (p : Pass), LastOfPass s sd k x p →
    ∃ t, exec (.readAnswerTimeout sd) s = .next t ∧
      (s.dsq.phase ≠ .restarting →
        MissLeaves s t sd k x ∧
        ((s.ssc.chains.get sd).owed = false →
          (t.ssc.chains.get sd).pass = none ∧ (t.ssc.chains.get sd).read = none ∧
          (t.ssc.chains.get sd).readTimer = none ∧
          (t.ssc.chains.get sd).passes = (s.ssc.chains.get sd).passes) ∧
        ((s.ssc.chains.get sd).owed = true →
          (t.ssc.chains.get sd).pass.map Pass.section_ = some 1 ∧
          (t.ssc.chains.get sd).read = some (s.readOf sd 1) ∧
          (t.ssc.chains.get sd).owed = false ∧
          (t.ssc.chains.get sd).passes = min ((s.ssc.chains.get sd).passes + 1) max32)) ∧
      (s.dsq.phase = .restarting →
        (p.referenced = false ∨ p.afterDoff = false → t.dsq.passCount = s.dsq.passCount) ∧
        (p.referenced = true → p.afterDoff = true →
          (∃ other, other ≠ sd ∧ s.dsq.passCount.get other < s.conf.verifyPasses) →
          t.dsq.phase = .restarting ∧
          t.dsq.passCount.get sd =
            min (s.dsq.passCount.get sd + 1) s.conf.verifyPasses)))

/-- R1, R5, R6, R13, R18, R19, R45, R100, R101, R147, R150 to R152, R155: an answered read of a section
without a base, or of a restarted node, takes the received counts as the base and forms no ratio, and so
does a measuring read whose expected passes lie below REF_MIN or above 32,768, which also counts a long
interval and may fill an empty probe capture, with the mark "no reference". The credit reaches the creel
group and the doff. That bytes after the 75th are discarded is the model's reading
(notes/assumptions/11.md). -/
def Obligations.BaseTakingReadTakesTheCounts : Prop :=
  (∀ (s : State) (sd : Side) (k : Nat) (x : Section) (p : Pass) (bytes : List Byte) (a : NodeAnswer),
    MidPass s sd k x p → 75 ≤ bytes.length → parseNodeAnswer k (bytes.take 75) = some a →
    (x.base = none ∨ a.restarted = true) →
    ∃ t, exec (.sectionReadAnswer sd bytes) s = .next t ∧
      t.section? sd k = some
        { snapshots := some (s.ssc.tin, s.ssc.fr)
          base := some a.counts
          step := x.step
          miss := 0
          lost := false } ∧
      NextInFlight s t sd k ∧
      t.ssc.counts = { s.ssc.counts with
        nodeRestarts :=
          if a.restarted then min (s.ssc.counts.nodeRestarts + 1) max32
          else s.ssc.counts.nodeRestarts } ∧
      (∀ i r, i < 24 → s.spindle? sd (24 * (k - 1) + i) = some r →
        ∃ cop, t.spindle? sd (24 * (k - 1) + i) =
          some { r with traveller := a.counts.getD i 0, cop := cop }) ∧
      (x.snapshots = none → t.pcn = s.pcn ∧ t.cmn = s.cmn ∧ t.dsq = s.dsq) ∧
      (∀ t0 f0 d whole, x.snapshots = some (t0, f0) → s.delivery? sd k = some d →
        whole = (d.remainder + (s.ssc.fr - f0).toNat * s.conf.frUm) / 1000 →
        GroupCredited s t (groupIndex s.n sd k) whole ∧
        DoffCredited s t (min (d.cycle + whole) max32)) ∧
      t.bdp = s.bdp ∧ t.clc = s.clc ∧ t.stu = s.stu ∧ t.hpt = s.hpt ∧
      t.ssc.capture = s.ssc.capture ∧ t.ssc.probeIndex = s.ssc.probeIndex) ∧
  (∀ (s : State) (sd : Side) (k : Nat) (x : Section) (p : Pass) (bytes : List Byte) (a : NodeAnswer)
    (base : List W16) (t0 f0 : W32) (pExp : Nat),
    MidPass s sd k x p → 75 ≤ bytes.length → parseNodeAnswer k (bytes.take 75) = some a →
    a.restarted = false → x.base = some base → x.snapshots = some (t0, f0) →
    pExp = (s.ssc.tin - t0).toNat * s.conf.spindleRatio * (1000 - s.conf.lag) /
      (s.conf.tinPpr * 1000000) →
    pExp < s.conf.refMin ∨ 32768 < pExp →
    ∃ t, exec (.sectionReadAnswer sd bytes) s = .next t ∧
      t.section? sd k = some
        { snapshots := some (s.ssc.tin, s.ssc.fr)
          base := some a.counts
          step := x.step
          miss := 0
          lost := false } ∧
      NextInFlight s t sd k ∧
      (t.ssc.chains.get sd).pass.map Pass.referenced = some p.referenced ∧
      t.ssc.tier = s.ssc.tier ∧ t.ssc.idleTimer = s.ssc.idleTimer ∧
      t.ssc.counts = { s.ssc.counts with
        longIntervals :=
          if 32768 < pExp then min (s.ssc.counts.longIntervals + 1) max32
          else s.ssc.counts.longIntervals } ∧
      (∀ i r, i < 24 → s.spindle? sd (24 * (k - 1) + i) = some r →
        ∃ cop, t.spindle? sd (24 * (k - 1) + i) =
          some { r with traveller := a.counts.getD i 0, cop := cop }) ∧
      (∀ d whole, s.delivery? sd k = some d →
        whole = (d.remainder + (s.ssc.fr - f0).toNat * s.conf.frUm) / 1000 →
        GroupCredited s t (groupIndex s.n sd k) whole ∧
        DoffCredited s t (min (d.cycle + whole) max32)) ∧
      t.pcn.acc.running = s.pcn.acc.running ∧ t.pcn.acc.possible = s.pcn.acc.possible ∧
      ProbeTaken s t sd k base a (s.ssc.tin - t0).toNat (s.ssc.fr - f0).toNat pExp none ∧
      t.bdp = s.bdp ∧ t.clc = s.clc ∧ t.stu = s.stu ∧ t.hpt = s.hpt)

/-- R1, R6, R11, R13 to R16, R18, R19, R28, R45, R47, R48, R50, R100 to R102, R147, R150 to R152, R155: a
referenced read writes each spindle's run ratio,
evidence counters, quality runs and traveller count, takes the counts as the new base, marks the pass
referenced and keeps the frame in RUN. A spindle whose good-quality run takes it out of SENSOR_FAULT is
UNKNOWN with its evidence counters and attempts 0. Unless it catches up, the read's delivery is
observed: the cycle length grows by the whole millimetres, so do the cops of the spindles left RUNNING
or SLACK, up to the cycle length, and the shift lengths, the delta and the efficiency tallies grow by
what those spindles spun. The credit draws down the creel group, which may run low, and moves the doff
progress, the phase and the overfull flag; a probe waiting in the section takes its capture. That bytes after the 75th are discarded is the model's reading
(notes/assumptions/11.md). ListAgrees is an invariant of its own (ListAgreesIsKept). -/
def Obligations.ReferencedReadFormsTheRatios : Prop :=
  ∀ (s : State) (sd : Side) (k : Nat) (x : Section) (p : Pass) (bytes : List Byte) (a : NodeAnswer)
    (base : List W16) (t0 f0 : W32) (pExp : Nat),
    MidPass s sd k x p → ListAgrees s sd →
    75 ≤ bytes.length → parseNodeAnswer k (bytes.take 75) = some a →
    a.restarted = false → x.base = some base → x.snapshots = some (t0, f0) →
    pExp = (s.ssc.tin - t0).toNat * s.conf.spindleRatio * (1000 - s.conf.lag) /
      (s.conf.tinPpr * 1000000) →
    s.conf.refMin ≤ pExp → pExp ≤ 32768 → x.step ≤ 15 →
    ∃ t, exec (.sectionReadAnswer sd bytes) s = .next t ∧
      (∀ i r, i < 24 → s.spindle? sd (24 * (k - 1) + i) = some r →
        ∃ r1, t.spindle? sd (24 * (k - 1) + i) = some r1 ∧
          EvidenceTaken s.conf r r1
            (min 1999 (1000 * (a.counts.getD i 0 - base.getD i 0).toNat / pExp))
            (a.qualities.getD i 0) ∧
          r1.traveller = a.counts.getD i 0) ∧
      (∃ x1, t.section? sd k = some x1 ∧ x1.base = some a.counts ∧
        x1.snapshots = some (s.ssc.tin, s.ssc.fr) ∧ x1.miss = 0 ∧ x1.lost = false ∧
        x1.step ≤ x.step + 1 ∧ x.step ≤ x1.step + 1) ∧
      NextInFlight s t sd k ∧
      (t.ssc.chains.get sd).pass.map Pass.section_ = some (k + 1) ∧
      (t.ssc.chains.get sd).pass.map Pass.referenced = some true ∧
      t.ssc.tier = .run ∧ t.ssc.idleTimer = some (s.conf.idleDownS * 1000) ∧
      t.ssc.counts = s.ssc.counts ∧ t.hpt = s.hpt ∧ t.cfg = s.cfg ∧
      (∀ d whole cycle, x.lost = false → s.delivery? sd k = some d →
        whole = (d.remainder + (s.ssc.fr - f0).toNat * s.conf.frUm) / 1000 →
        cycle = min (d.cycle + whole) max32 →
        ObservedCredit s t sd k d f0 whole cycle) ∧
      (∀ d whole, s.delivery? sd k = some d →
        whole = (d.remainder + (s.ssc.fr - f0).toNat * s.conf.frUm) / 1000 →
        GroupJudged s t sd k (groupIndex s.n sd k) whole ∧
        DoffCredited s t (min (d.cycle + whole) max32)) ∧
      ProbeTaken s t sd k base a (s.ssc.tin - t0).toNat (s.ssc.fr - f0).toNat pExp (some pExp)

/-- R12: the expected traveller passes are the quotient, rounded down, of a numerator that fits 63
bits; T = 0 gives 0. -/
def Obligations.ExpectedPassesAreTheQuotient : Prop :=
  ∀ (c : Cfg) (t : Nat), c.spindleRatio ≤ 20000 → 1 ≤ c.tinPpr → c.tinPpr ≤ 1024 →
    t ≤ 4294967295 →
    expectedPasses c t * (c.tinPpr * 1000000) ≤ t * c.spindleRatio * (1000 - c.lag) ∧
    t * c.spindleRatio * (1000 - c.lag) < (expectedPasses c t + 1) * (c.tinPpr * 1000000) ∧
    t * c.spindleRatio * (1000 - c.lag) < 2 ^ 32 * 20000 * 1000 ∧
    2 ^ 32 * 20000 * 1000 < 2 ^ 63 ∧
    c.tinPpr * 1000000 ≤ 1024 * 1000000 ∧
    expectedPasses c 0 = 0

/-! ### Production -/

/-- R51: efficiency is the floor of 1,000 running / possible in permille, 0 when possible is 0. No
step lets running exceed possible, so efficiency lies in 0..1000; READ_STATUS and the close of a shift
compute it from the tallies. -/
def Obligations.EfficiencyIsAShareInPermille : Prop :=
  (∀ a : Accum, a.possible = 0 → a.efficiency = 0) ∧
  (∀ a : Accum, 0 < a.possible →
    a.efficiency * a.possible ≤ 1000 * a.running ∧
    1000 * a.running < (a.efficiency + 1) * a.possible) ∧
  (∀ (s : State) (sd : Side) (k : Nat), s.pcn.acc.running ≤ s.pcn.acc.possible →
    (tallyEfficiency sd k s).pcn.acc.running ≤ (tallyEfficiency sd k s).pcn.acc.possible ∧
    (tallyEfficiency sd k s).pcn.acc.efficiency ≤ 1000) ∧
  (∀ s t : State, s.pcn.acc.running ≤ s.pcn.acc.possible → step s = .next t →
    t.pcn.acc.running ≤ t.pcn.acc.possible ∧ t.pcn.acc.efficiency ≤ 1000) ∧
  (∀ (a : Accum) (texX10 : Nat), (closingFigures a texX10).efficiency = a.efficiency) ∧
  (∀ (s : State) (high : Bool), (statusFigures s high).efficiency = s.pcn.acc.efficiency)

/-- R53: the mass in grams is the floor of metres times TEX_X10 over 10,000, held at 4,294,967,295; the
close of a shift and READ_STATUS compute it from the good length's whole metres only. -/
def Obligations.MassIsOfTheGoodLength : Prop :=
  (∀ m texX10 : Nat, m ≤ 4294967295 → texX10 ≤ 1000 →
    m * texX10 < 2 ^ 64 ∧ massOf texX10 m ≤ 4294967295 ∧
    (m * texX10 / 10000 ≤ 4294967295 → massOf texX10 m = m * texX10 / 10000)) ∧
  (∀ (a : Accum) (texX10 : Nat), (closingFigures a texX10).mass = massOf texX10 a.good.m) ∧
  (∀ (s : State) (high : Bool),
    (statusFigures s high).mass = massOf s.conf.texX10 s.pcn.acc.good.m)

/-- R56, R57: at DOFF_START every cop above 0 is counted, summed and tested against 90 % of the target;
then every cop and every cycle length is 0, the section remainders stand, and the doff is counted. -/
def Obligations.DoffStartTakesEveryCop : Prop :=
  ∀ s : State, s.pcn.acc.copsDoffed ≤ max32 → s.pcn.acc.shortCops ≤ max32 → LengthsInRange s →
    let cops := ((s.spt.spindles.l ++ s.spt.spindles.r).map Spindle.cop).filter (0 < ·)
    let t := doffStartProduction s
    t.pcn.acc.copsDoffed = min (s.pcn.acc.copsDoffed + cops.length) max32 ∧
    t.pcn.acc.copSum.m =
      min (s.pcn.acc.copSum.m + (s.pcn.acc.copSum.mm + cops.sum) / 1000) max32 ∧
    t.pcn.acc.copSum.mm = (s.pcn.acc.copSum.mm + cops.sum) % 1000 ∧
    t.pcn.acc.shortCops = min
      (s.pcn.acc.shortCops + cops.countP (fun c => c < 900 * s.conf.doffTargetM)) max32 ∧
    t.pcn.acc.doffs = min (s.pcn.acc.doffs + 1) max32 ∧
    t.pcn.acc.good = s.pcn.acc.good ∧ t.pcn.delta = s.pcn.delta ∧
    (∀ sd pos r, t.spindle? sd pos = some r → r.cop = 0) ∧
    (∀ sd, (t.pcn.deliveries.get sd) =
      (s.pcn.deliveries.get sd).map (fun d => { cycle := 0, remainder := d.remainder }))

/-! ### Dispatch and the carriages -/

/-- R68, R118, R165: when the floor clock comes to a side's wake stamp the stamp is recomputed to the
earliest not-before stamp still ahead, and the side is examined: an ineligible side gives no dispatch.
The other side's wake stamp and the shift end are reached with it where the clock has passed them. That
the command brings the clock to the stamp is the model's choice (notes/assumptions/3.md). -/
def Obligations.WakeStampIsRecomputed : Prop :=
  (∀ (s : State) (sd : Side) (w : Nat), (s.bdp.get sd).wake = some w →
    (s.ssc.tier ≠ .run ∨ s.pins.driveRun = false ∨ (s.clc.get sd).state ≠ .ready ∨
      (s.clc.get sd).record.isSome = true ∨ s.dsq.phase = .doffing ∨ s.dsq.phase = .restarting) →
    (∀ other u, other ≠ sd → (s.bdp.get other).wake = some u → max s.flc.clock w < u) →
    (∀ e, s.shiftEnd = some e → max s.flc.clock w < e ∨ s.stu.number = max32) →
    ∃ wake, exec (.wakeStampReached sd) s = .next { s with
        flc := { s.flc with clock := max s.flc.clock w }
        bdp := s.bdp.set sd { s.bdp.get sd with wake := wake } } ∧
      (∀ t, wake = some t → max s.flc.clock w < t ∧
        (∃ e ∈ (s.bdp.get sd).entries, e.notBefore = some t) ∧
        ∀ e ∈ (s.bdp.get sd).entries, ∀ u, e.notBefore = some u → max s.flc.clock w < u → t ≤ u) ∧
      (wake = none → ∀ e ∈ (s.bdp.get sd).entries, ∀ u, e.notBefore = some u →
        u ≤ max s.flc.clock w)) ∧
  (∀ (s : State) (sd : Side) (w : Nat), (s.bdp.get sd).wake = some w →
    ∃ t, exec (.wakeStampReached sd) s = .next t ∧ t.flc.clock = max s.flc.clock w ∧
      (∀ side u, (t.bdp.get side).wake = some u → t.flc.clock < u) ∧
      (∀ e, s.shiftEnd = some e → e ≤ max s.flc.clock w → s.stu.number < max32 →
        t.stu.number = s.stu.number + 1))

/-- R67, R69, R70: the sweep chooses the nearest candidate ahead in the carriage's direction, its own
place included; with none ahead it reverses to the nearest behind. The choice of the next job is made
among the candidates, the entries of the list that no stamp and no creel group holds, and where there
is one it chooses one: the starved candidate of the earliest arrival, those that share it being left to
the sweep, and where none is starved the sweep's choice among all. -/
def Obligations.SweepChoosesTheNearestAhead : Prop :=
  (∀ (p : Nat) (es : List BreakEntry) (dir : Dir),
    es.Pairwise (fun a b => a.position < b.position) →
    (es ≠ [] → (sweep dir p es).isSome = true) ∧
    ∀ (e : BreakEntry) (rev : Bool), sweep dir p es = some (e, rev) →
      e ∈ es ∧
      (rev = false → (dir = .up → p ≤ e.position ∧
          ∀ f ∈ es, p ≤ f.position → e.position ≤ f.position) ∧
        (dir = .down → e.position ≤ p ∧ ∀ f ∈ es, f.position ≤ p → f.position ≤ e.position)) ∧
      (rev = true → (dir = .up → (∀ f ∈ es, f.position < p) ∧
          ∀ f ∈ es, f.position ≤ e.position) ∧
        (dir = .down → (∀ f ∈ es, p < f.position) ∧ ∀ f ∈ es, e.position ≤ f.position))) ∧
  (∀ (s : State) (sd : Side) (cands starved : List BreakEntry),
    cands = (s.bdp.get sd).entries.filter (fun e => heldByCreel s sd e.position = false ∧
      ∀ t ∈ e.notBefore, t ≤ s.flc.clock) →
    starved = cands.filter (fun e => s.conf.starveS * 1000 ≤ s.flc.clock - e.arrival) →
    (choose s sd = none ↔ cands = []) ∧
    ∀ ch, choose s sd = some ch →
      ch.entry ∈ cands ∧ (ch.starved = true ↔ starved ≠ []) ∧
      (starved = [] →
        sweep (s.clc.get sd).direction (s.clc.get sd).position cands =
          some (ch.entry, ch.reversed)) ∧
      (starved ≠ [] → ch.entry ∈ starved ∧ (∀ f ∈ starved, ch.entry.arrival ≤ f.arrival) ∧
        ∀ tied, tied = starved.filter (fun f => f.arrival = ch.entry.arrival) →
          (tied.length = 1 → ch.reversed = false) ∧
          (1 < tied.length →
            sweep (s.clc.get sd).direction (s.clc.get sd).position tied =
              some (ch.entry, ch.reversed))))

/-- R75: at the expiry of the exchange timer it starts again with 100 ms and one transmission is sent: the
outstanding order by its kind's byte and its number, or a POLL with the last one, closed by its check
byte; 20 ms later an exchange without an answer ends unanswered, and so does one whose answer is
incomplete or fails its check. -/
def Obligations.ExchangesSendAndTimeOut : Prop :=
  (∀ (s : State) (sd : Side) (left : Nat), (s.clc.get sd).exchangeTimer = some left →
    ∃ bytes, exec (.exchangeTimerExpiry sd) s = .next (s.setCar sd
        { s.clc.get sd with
          exchangeTimer := some 100
          exchange := some bytes
          answerTimer := some 20
          counts := { (s.clc.get sd).counts with
            exchanges := min ((s.clc.get sd).counts.exchanges + 1) max32 } }) ∧
      xorBytes bytes = 0 ∧
      ((s.clc.get sd).outstanding = none →
        bytes = [1, (s.clc.get sd).lastOrder, 1 ^^^ (s.clc.get sd).lastOrder]) ∧
      (∀ n, (s.clc.get sd).outstanding = some { kind := .connect, number := n } →
        bytes = [2, n, 2 ^^^ n]) ∧
      (∀ n, (s.clc.get sd).outstanding = some { kind := .release, number := n } →
        bytes = [3, n, 3 ^^^ n]) ∧
      (∀ p a n, (s.clc.get sd).outstanding = some { kind := .goPiece p a, number := n } →
        bytes.take 5 = [4, n, BitVec.ofNat 8 (p / 256), BitVec.ofNat 8 p, BitVec.ofNat 8 a] ∧
        bytes.length = 6) ∧
      (∀ n, (s.clc.get sd).outstanding = some { kind := .abandon, number := n } →
        bytes = [5, n, 5 ^^^ n]) ∧
      (∀ n, (s.clc.get sd).outstanding = some { kind := .park, number := n } →
        bytes = [6, n, 6 ^^^ n]) ∧
      (∀ n, (s.clc.get sd).outstanding = some { kind := .resume, number := n } →
        bytes = [7, n, 7 ^^^ n])) ∧
  (∀ (s : State) (sd : Side) (c : Instr), (s.clc.get sd).exchange.isSome = true →
    (c = .carriageAnswerTimeout sd ∨ ∃ bytes, c = .carriageAnswer sd bytes ∧
      (bytes.length < 11 ∨ xorBytes (bytes.take 10) ≠ bytes.getD 10 0 ∨
        4 < (bytes.getD 0 0).toNat ∨ 1 < (bytes.getD 5 0).toNat)) →
    exec c s = .next (s.setCar sd
      { s.clc.get sd with
        exchange := none
        answerTimer := none
        counts := { (s.clc.get sd).counts with
          unanswered := min ((s.clc.get sd).counts.unanswered + 1) max32 } }))

/-- R77, R78, R81 to R84, R86, R88, R89: the first silence expiry of a connected context makes it SUSPECT,
and the second makes it LOST, its job or its resume record ending ABORTED; in DISCONNECTED the expiry ends
the release. A FAULT answer without a report acts as the first expiry does, with its code noted and a job
ending with FAULT; in SUSPECT and LOST it is only noted. A sound answer in SUSPECT acts as in the held
state, and in LOST it begins a connection. A READY context with a job, and a report beside a FAULT, are
left out. That the end of a release drops its order is the model's reading (notes/assumptions/19.md), and
so are the position and the taken number of a FAULT answer (15.md), FAULT with code 0 (20.md) and bytes
after the 11th (11.md). -/
def Obligations.SilenceMakesSuspectThenLost : Prop :=
  (∀ (s : State) (sd : Side) (left : Nat), (s.clc.get sd).silenceTimer = some left →
    s.plainAttention .carriage →
    ((s.clc.get sd).state ≠ .disconnected → (s.clc.get sd).state ≠ .lost →
      (s.clc.get sd).state ≠ .suspect →
      exec (.silenceTimerExpiry sd) s = .next ((s.setCar sd
        { s.clc.get sd with
          state := .suspect
          held := some (s.clc.get sd).state
          stage := 1
          silenceTimer := some 1000 }).noted .carriage)) ∧
    ((s.clc.get sd).state = .suspect → (s.clc.get sd).job = none →
      (s.clc.get sd).record = none →
      exec (.silenceTimerExpiry sd) s = .next ((s.setCar sd
        { s.clc.get sd with
          state := .lost
          held := none
          stage := 0
          outstanding := none
          silenceTimer := none
          counts := { (s.clc.get sd).counts with
            lost := min ((s.clc.get sd).counts.lost + 1) max32 } }).noted .carriage)) ∧
    (∀ pos r, (s.clc.get sd).state = .suspect →
      ((∃ j, (s.clc.get sd).job = some j ∧ j.position = pos ∧ (s.clc.get sd).record = none) ∨
        (∃ k, (s.clc.get sd).record = some k ∧ k.position = pos ∧ (s.clc.get sd).job = none)) →
      s.spindle? sd pos = some r → r.state = .servicing →
      ∃ t, exec (.silenceTimerExpiry sd) s = .next t ∧
        t.clc.get sd =
          { (s.clc.get sd).withOutcome .aborted pos s.flc.clock with
            job := none
            jobTimer := if (s.clc.get sd).job.isSome then none else (s.clc.get sd).jobTimer
            record := none
            state := .lost
            held := none
            stage := 0
            outstanding := none
            silenceTimer := none
            counts := { (s.clc.get sd).counts with
              lost := min ((s.clc.get sd).counts.lost + 1) max32 } } ∧
        Relisted s t sd pos r ∧
        ((s.bdp.get sd).entries.length < 64 → t.atc = (s.noted .carriage).atc)) ∧
    ((s.clc.get sd).state = .disconnected →
      exec (.silenceTimerExpiry sd) s = .next (s.setCar sd
        { s.clc.get sd with outstanding := none, exchangeTimer := none, silenceTimer := none }))) ∧
  (∀ (s : State) (sd : Side) (sent bytes : List Byte) (a : CarAnswer) (code : Byte),
    (s.clc.get sd).exchange = some sent → parseCarAnswer (bytes.take 11) = some a →
    a.report = none → a.status = .fault code →
    ((s.clc.get sd).state = .ready ∨ (s.clc.get sd).state = .dispatched ∨
        (s.clc.get sd).state = .parking ∨ (s.clc.get sd).state = .parked →
      (s.clc.get sd).job = none → s.plainAttention .carriage →
      exec (.carriageAnswer sd bytes) s = .next ((s.setCar sd
        { (s.clc.get sd).heardFrom a s.n with
          state := .suspect
          held := some (s.clc.get sd).state
          stage := 1
          lastFault := some code
          counts := { (s.clc.get sd).counts with
            faults := min ((s.clc.get sd).counts.faults + 1) max32 } }).noted .carriage)) ∧
    (∀ j r, (s.clc.get sd).state = .dispatched ∨ (s.clc.get sd).state = .parking ∨
        (s.clc.get sd).state = .parked → (s.clc.get sd).job = some j →
      s.spindle? sd j.position = some r → r.state = .servicing → s.plainAttention .carriage →
      ∃ t, exec (.carriageAnswer sd bytes) s = .next t ∧
        t.clc.get sd =
          { ((s.clc.get sd).heardFrom a s.n).withOutcome .fault j.position s.flc.clock with
            job := none
            jobTimer := none
            state := .suspect
            held := some (s.clc.get sd).state
            stage := 1
            lastFault := some code
            counts := { (s.clc.get sd).counts with
              faults := min ((s.clc.get sd).counts.faults + 1) max32 } } ∧
        Relisted s t sd j.position r ∧
        ((s.bdp.get sd).entries.length < 64 → t.atc = (s.noted .carriage).atc)) ∧
    (∀ h, (s.clc.get sd).state = .suspect → (s.clc.get sd).held = some h →
      (h = .ready ∨ h = .dispatched ∨ h = .parking ∨ h = .parked) →
      exec (.carriageAnswer sd bytes) s = .next (s.setCar sd
        { (s.clc.get sd).heardFrom a s.n with
          silenceTimer := (s.clc.get sd).silenceTimer
          lastFault := some code
          counts := { (s.clc.get sd).counts with
            faults := min ((s.clc.get sd).counts.faults + 1) max32 } })) ∧
    (∀ n, (s.clc.get sd).state = .connecting → (s.clc.get sd).job = none →
      (s.clc.get sd).outstanding = some { kind := .connect, number := n } → n ≠ a.taken →
      s.plainAttention .carriage →
      exec (.carriageAnswer sd bytes) s = .next ((s.setCar sd
        { s.clc.get sd with
          exchange := none
          answerTimer := none
          silenceTimer := some 1000
          state := .suspect
          held := some .connecting
          stage := 1
          lastFault := some code
          counts := { (s.clc.get sd).counts with
            faults := min ((s.clc.get sd).counts.faults + 1) max32 } }).noted .carriage)) ∧
    ((s.clc.get sd).state = .lost → (s.clc.get sd).outstanding = none →
      exec (.carriageAnswer sd bytes) s = .next (s.setCar sd
        { s.clc.get sd with
          exchange := none
          answerTimer := none
          lastFault := some code
          counts := { (s.clc.get sd).counts with
            faults := min ((s.clc.get sd).counts.faults + 1) max32 } }))) ∧
  (∀ (s : State) (sd : Side) (sent bytes : List Byte) (a : CarAnswer),
    (s.clc.get sd).exchange = some sent → parseCarAnswer (bytes.take 11) = some a →
    (∀ code, a.status ≠ .fault code) →
    (∀ h, (s.clc.get sd).state = .suspect → (s.clc.get sd).held = some h →
      (h = .connecting ∨ h = .dispatched ∨ h = .parking ∨ h = .parked) →
      exec (.carriageAnswer sd bytes) s = exec (.carriageAnswer sd bytes) (s.setCar sd
        { s.clc.get sd with state := h, held := none, stage := 0 })) ∧
    ((s.clc.get sd).state = .lost → (s.clc.get sd).outstanding = none →
      exec (.carriageAnswer sd bytes) s = .next (s.setCar sd
        ({ s.clc.get sd with
          exchange := none
          answerTimer := none
          state := .connecting
          lastReport := none
          silenceTimer := some 1000 }.ordered .connect))))

/-- R34, R88, R89, R91: the job timer's expiry in DISPATCHED ends the job with TIMEOUT, a counted
failure of its spindle, and issues ABANDON; the context is left draining. -/
def Obligations.JobTimerAbandonsTheJob : Prop :=
  ∀ (s : State) (sd : Side) (left : Nat) (j : Job) (r : Spindle),
    (s.clc.get sd).jobTimer = some left → (s.clc.get sd).state = .dispatched →
    (s.clc.get sd).job = some j → s.spindle? sd j.position = some r → r.state = .servicing →
    ∃ t, exec (.jobTimerExpiry sd) s = .next t ∧
      (t.clc.get sd).state = .dispatched ∧ (t.clc.get sd).job = none ∧
      (t.clc.get sd).jobTimer = none ∧
      (t.clc.get sd).outstanding =
        some { kind := .abandon, number := (s.clc.get sd).lastOrder + 1 } ∧
      (t.clc.get sd).counts = { (s.clc.get sd).counts with
        failed := min ((s.clc.get sd).counts.failed + 1) max32
        timeouts := min ((s.clc.get sd).counts.timeouts + 1) max32 } ∧
      (t.clc.get sd).lastOutcome = some
        { kind := .timeout, position := j.position, stamp := s.flc.clock
          disposition := .reported } ∧
      (∃ r1, t.spindle? sd j.position = some r1 ∧ r1.attempts = r.attempts + 1 ∧
        r1.state = if r.attempts + 1 < s.conf.pieceTries then .broken else .blocked) ∧
      t.pcn.acc.countedFailures = min (s.pcn.acc.countedFailures + 1) max32 ∧
      t.pcn.acc.falseSuccesses = s.pcn.acc.falseSuccesses ∧
      t.cfg = s.cfg ∧ t.ssc = s.ssc ∧ t.flc = s.flc ∧ t.bcu = s.bcu ∧ t.dsq = s.dsq ∧
      t.stu = s.stu ∧ t.hpt = s.hpt

/-- R75, R77, R78, R80, R81, R88 to R90, R95, R96: a sound answer without a report ends the exchange,
restarts the silence timer, settles the outstanding order by the taken number, and moves the position by
the signed delta within 0..N - 1; then its status acts by the state. In READY only PARKED acts. In
DISPATCHED, MOVING and PIECING are noted in the job, IDLE ends draining, or a job whose GO_PIECE has been
taken, and PARKED ends a job. PARKING waits for PARKED and issues PARK anew at IDLE. In PARKED, IDLE makes
the context READY where a RESUME has been taken or no demand is set, and a resume record is served first;
an answer that shows a carriage out of its park under a demand sends it back to PARKING. A context that
becomes READY has its side examined. A dropped job's relisting is stated for a frame whose drive is off.
That the examination follows the status is the model's reading (notes/assumptions/13.md), and so is that
bytes after the 11th are discarded (notes/assumptions/11.md). -/
def Obligations.AnswerInReadyMovesThePosition : Prop :=
  ∀ (s : State) (sd : Side) (sent bytes : List Byte) (a : CarAnswer) (c : Carriage),
    (s.clc.get sd).exchange = some sent → parseCarAnswer (bytes.take 11) = some a →
    a.report = none → c = (s.clc.get sd).heardFrom a s.n →
    ((s.clc.get sd).state = .ready →
      (a.status = .idle ∨ a.status = .moving ∨ a.status = .piecing →
        exec (.carriageAnswer sd bytes) s = .next (s.setCar sd
          { s.clc.get sd with
            exchange := none
            answerTimer := none
            silenceTimer := some 1000
            outstanding := (s.clc.get sd).outstanding.filter (fun o => o.number != a.taken)
            position :=
              min (((s.clc.get sd).position : Int) + signed16 a.place).toNat (s.n - 1) })) ∧
      (a.status = .parked →
        exec (.carriageAnswer sd bytes) s = .next (s.setCar sd c.nowParked))) ∧
    ((s.clc.get sd).state = .dispatched →
      (c.job = none →
        (a.status = .idle →
          exec (.carriageAnswer sd bytes) s = .next (examine sd (s.setCar sd
            { c with
              state := .ready
              outstanding := c.outstanding.filter (fun o => o.kind != .abandon) }))) ∧
        (a.status = .moving ∨ a.status = .piecing →
          exec (.carriageAnswer sd bytes) s = .next (s.setCar sd c)) ∧
        (a.status = .parked →
          exec (.carriageAnswer sd bytes) s = .next (s.setCar sd c.nowParked))) ∧
      (∀ j, c.job = some j →
        (∀ p n m, a.status = .idle → c.outstanding = some { kind := .goPiece p n, number := m } →
          exec (.carriageAnswer sd bytes) s = .next (s.setCar sd c)) ∧
        (a.status = .moving →
          exec (.carriageAnswer sd bytes) s =
            .next (s.setCar sd { c with job := some { j with seen := some .moving } })) ∧
        (a.status = .piecing →
          exec (.carriageAnswer sd bytes) s =
            .next (s.setCar sd { c with job := some { j with seen := some .piecing } })) ∧
        (∀ r, s.spindle? sd j.position = some r → r.state = .servicing →
          (a.status = .idle → c.outstanding = none → s.pins.driveRun = false →
            ∃ t, exec (.carriageAnswer sd bytes) s = .next t ∧
              t.clc.get sd =
                { c.withOutcome .aborted j.position s.flc.clock with
                  job := none
                  jobTimer := none
                  state := .ready
                  counts := { c.counts with dropped := min (c.counts.dropped + 1) max32 } } ∧
              Relisted s t sd j.position r) ∧
          (a.status = .parked →
            ∃ t, exec (.carriageAnswer sd bytes) s = .next t ∧
              t.clc.get sd =
                ({ c.withOutcome .aborted j.position s.flc.clock with
                  job := none, jobTimer := none } : Carriage).nowParked ∧
              Relisted s t sd j.position r)))) ∧
    ((s.clc.get sd).state = .parking →
      (a.status = .parked →
        exec (.carriageAnswer sd bytes) s = .next (s.setCar sd c.nowParked)) ∧
      (a.status = .idle → exec (.carriageAnswer sd bytes) s = .next (s.setCar sd c.toPark)) ∧
      (a.status = .moving ∨ a.status = .piecing →
        exec (.carriageAnswer sd bytes) s = .next (s.setCar sd c))) ∧
    ((s.clc.get sd).state = .parked →
      (a.status = .parked ∨ ((a.status = .moving ∨ a.status = .piecing) ∧
          (c.resumeTaken = true ∨ (c.doffDemand = false ∧ c.tierDemand = false))) →
        exec (.carriageAnswer sd bytes) s = .next (s.setCar sd c)) ∧
      ((a.status = .idle ∨ a.status = .moving ∨ a.status = .piecing) → c.resumeTaken = false →
        (c.doffDemand = true ∨ c.tierDemand = true) →
        exec (.carriageAnswer sd bytes) s = .next (s.setCar sd c.toPark)) ∧
      (a.status = .idle → c.resumeTaken = true ∨ (c.doffDemand = false ∧ c.tierDemand = false) →
        (c.record = none →
          exec (.carriageAnswer sd bytes) s =
            .next (examine sd (s.setCar sd { c with state := .ready }))) ∧
        (∀ k r, c.record = some k → s.spindle? sd k.position = some r → r.state = .servicing →
          exec (.carriageAnswer sd bytes) s = .next (s.setCar sd
            { c.ordered (.goPiece k.position k.attempt) with
              state := .dispatched
              record := none
              direction := k.direction
              job := some
                { spindle := k.spindle
                  position := k.position
                  attempt := k.attempt
                  stamp := s.flc.clock
                  seen := none }
              jobTimer := some (s.conf.pieceMaxS * 1000)
              counts := { c.counts with
                resumptions := min (c.counts.resumptions + 1) max32 } }))))

/-- R33, R35, R78, R88, R89: a new report PIECED that matches the job of a DISPATCHED context ends
the job and moves its spindle to VERIFYING; the context becomes READY, and with DRIVE_RUN inactive
the examination of the side finds it ineligible. A frame whose drive is on, where the next dispatch may
follow in the same event, is left out. That the examination follows the status is the model's reading
(notes/assumptions/13.md), and so is that bytes after the 11th are discarded
(notes/assumptions/11.md). -/
def Obligations.PiecedReportVerifiesTheSpindle : Prop :=
  ∀ (s : State) (sd : Side) (sent bytes : List Byte) (a : CarAnswer) (d : DoneReport) (j : Job)
    (r : Spindle),
    (s.clc.get sd).exchange = some sent → parseCarAnswer (bytes.take 11) = some a → a.status = .idle →
    a.report = some d → d.outcome = .pieced → (s.clc.get sd).lastReport ≠ some d.number →
    (s.clc.get sd).state = .dispatched → (s.clc.get sd).job = some j →
    d.position = j.position → s.spindle? sd j.position = some r → r.state = .servicing →
    s.pins.driveRun = false →
    ∃ t, exec (.carriageAnswer sd bytes) s = .next t ∧
      (t.clc.get sd).state = .ready ∧ (t.clc.get sd).job = none ∧
      (t.clc.get sd).jobTimer = none ∧ (t.clc.get sd).lastReport = some d.number ∧
      (t.clc.get sd).counts = { (s.clc.get sd).counts with
        pieced := min ((s.clc.get sd).counts.pieced + 1) max32 } ∧
      .pieced ∈ (t.clc.get sd).outcomes ∧
      t.spindle? sd j.position =
        some { r with state := .verifying, listed := false, verify := 0 } ∧
      (∀ pos, pos ≠ j.position → t.spindle? sd pos = s.spindle? sd pos) ∧
      t.bdp = s.bdp ∧ t.pcn = s.pcn ∧ t.cmn = s.cmn ∧ t.atc = s.atc ∧ t.flc = s.flc ∧
      t.ssc = s.ssc ∧ t.dsq = s.dsq ∧ t.hpt = s.hpt

/-! ### The floor line -/

/-- R103 to R106, R109, R116 to R118, R124, R126, R128 to R130, R141, R168, R169: a bad frame raises H by 1,
and in ACTIVE and CAUTIOUS the test of H follows, to CAUTIOUS at 64 and to SILENT at 160; a good frame of
the own id outside a read-back puts the link in CONFLICT, a foreign one and one from outside the bay are
only counted, and a shift message from outside the bay is accepted and makes no entry. An accepted
message moves the floor clock to a stamp more than 2 ms ahead; its header's shift number adopts, closes
or is counted as behind; a peer's message changes its entry, or makes one where the table has room and
else counts the table full; a claim, a take or a withdrawal ends the own train claim; offers, dockings,
withdrawals and CREEL_DONE act on their group. -/
def Obligations.FloorFramesAreFiltered : Prop :=
  (∀ (s : State) (bytes : List Byte) (ok : Bool),
    s.flc.link ≠ .off → s.readingBack = false → frameGood bytes ok = false →
    (s.flc.link.sends = false ∨ (s.flc.link = .active ∧ s.flc.health + 1 < 64) ∨
        (s.flc.link = .cautious ∧ 32 ≤ s.flc.health + 1 ∧ s.flc.health + 1 < 160) →
      exec (.floorFrameReceived bytes ok) s = .next { s with flc := { s.flc with
        health := min (s.flc.health + 1) 255
        counts := { s.flc.counts with
          badFrames := min (s.flc.counts.badFrames + 1) max32 } } }) ∧
    (s.flc.link = .active → 64 ≤ s.flc.health + 1 → s.flc.health + 1 < 160 →
      s.plainAttention .link →
      exec (.floorFrameReceived bytes ok) s = .next (({ s with flc := { s.flc with
        link := .cautious
        skip := false
        health := s.flc.health + 1
        counts := { s.flc.counts with
          badFrames := min (s.flc.counts.badFrames + 1) max32
          cautiousEntries := min (s.flc.counts.cautiousEntries + 1) max32 } } } : State).noted
            .link)) ∧
    (s.flc.link = .active ∨ s.flc.link = .cautious → 160 ≤ s.flc.health + 1 →
      s.plainAttention .link →
      ∃ t, exec (.floorFrameReceived bytes ok) s = .next t ∧
        t.flc = { s.flc with
          link := .silent
          health := min (s.flc.health + 1) 255
          width := if s.flc.slot.isSome then 8 else s.flc.width
          queue := []
          slot := none
          beaconTimer := none
          silentFrames := 0
          silentTimer := some 30000
          counts := { s.flc.counts with
            badFrames := min (s.flc.counts.badFrames + 1) max32
            cleared := min (s.flc.counts.cleared + (if s.flc.slot.isSome then 1 else 0) +
              s.flc.queue.length) max32
            silentEntries := min (s.flc.counts.silentEntries + 1) max32 } } ∧
        t.atc = (s.noted .link).atc ∧ t.bcu.doff = none ∧ t.bcu.train = none ∧
        (s.bcu.doff.isSome = true → t.dsq.phase = .holding ∧ t.bcu.hold.isSome = true) ∧
        (s.bcu.doff = none → t.dsq = s.dsq ∧ t.bcu.hold = s.bcu.hold) ∧
        t.cfg = s.cfg ∧ t.ssc = s.ssc ∧ t.spt = s.spt ∧ t.pcn = s.pcn ∧ t.bdp = s.bdp ∧
        t.clc = s.clc ∧ t.stu = s.stu ∧ t.hpt = s.hpt)) ∧
  (∀ (s : State) (bytes : List Byte), s.flc.link ≠ .off → s.flc.link ≠ .silent →
    s.readingBack = false → frameGood bytes true = true →
    (parseFrame bytes = none →
      exec (.floorFrameReceived bytes true) s = .next { s with flc := { s.flc with
        counts := { s.flc.counts with
          goodFrames := min (s.flc.counts.goodFrames + 1) max32
          foreign := min (s.flc.counts.foreign + 1) max32 } } }) ∧
    (∀ f, parseFrame bytes = some f → f.sender ≠ s.conf.stationId →
      f.sender &&& s.conf.bayMask ≠ s.conf.stationId &&& s.conf.bayMask →
      f.content.isShift = false →
      exec (.floorFrameReceived bytes true) s = .next { s with flc := { s.flc with
        counts := { s.flc.counts with
          goodFrames := min (s.flc.counts.goodFrames + 1) max32
          outOfBay := min (s.flc.counts.outOfBay + 1) max32 } } })) ∧
  (∀ (s : State) (bytes : List Byte) (f : Frame),
    s.flc.link = .join ∨ s.flc.link = .active ∨ s.flc.link = .cautious → s.flc.slot = none →
    s.bcu.doff = none → s.bcu.train = none → s.plainAttention .link →
    frameGood bytes true = true → parseFrame bytes = some f → f.sender = s.conf.stationId →
    exec (.floorFrameReceived bytes true) s = .next (({ s with flc := { s.flc with
      link := .conflict
      queue := []
      joinTimer := none
      silentTimer := none
      beaconTimer := none
      counts := { s.flc.counts with
        goodFrames := min (s.flc.counts.goodFrames + 1) max32
        cleared := min (s.flc.counts.cleared + s.flc.queue.length) max32
        conflictEntries := min (s.flc.counts.conflictEntries + 1) max32 } } } : State).noted
          .link)) ∧
  (∀ (s : State) (bytes : List Byte) (f : Frame), Heard s bytes f →
    ∃ t, exec (.floorFrameReceived bytes true) s = .next t ∧
      t.flc.counts.goodFrames = min (s.flc.counts.goodFrames + 1) max32 ∧
      t.flc.counts.accepted = min (s.flc.counts.accepted + 1) max32 ∧
      t.flc.clock = (if s.flc.clock + 2 < f.stamp then f.stamp else s.flc.clock) ∧
      t.flc.counts.clockAdjustments =
        (if s.flc.clock + 2 < f.stamp then min (s.flc.counts.clockAdjustments + 1) max32
          else s.flc.counts.clockAdjustments) ∧
      (f.sender &&& s.conf.bayMask ≠ s.conf.stationId &&& s.conf.bayMask →
        t.flc.peers = s.flc.peers) ∧
      (f.stamp ≤ s.flc.clock + 2 → t.stu.number = max s.stu.number f.shift) ∧
      (f.stamp ≤ s.flc.clock + 2 → f.content.isShift = false →
        (f.shift = 0 ∨ f.shift = s.stu.number → t.stu = s.stu) ∧
        (1 ≤ f.shift → f.shift < s.stu.number → t.stu = { s.stu with
          counts := { s.stu.counts with behind := min (s.stu.counts.behind + 1) max32 } }) ∧
        (s.stu.number = 0 → 1 ≤ f.shift → t.pcn.acc.shiftStart = s.flc.clock ∧
          t.stu = { s.stu with
            number := f.shift
            counts := { s.stu.counts with
              adoptions := min (s.stu.counts.adoptions + 1) max32 } }) ∧
        (1 ≤ s.stu.number → s.stu.number < f.shift → t.pcn.acc.shiftStart = s.flc.clock ∧
          t.stu.records =
            ({ shift := s.stu.number
               start := s.pcn.acc.shiftStart
               stop := s.flc.clock
               figures := closingFigures s.pcn.acc s.conf.texX10
               renumbered := s.stu.number + 1 < f.shift
               offered := false
               reportTimer := some (s.conf.stationId * 100)
               tally := Tally.own s.conf.stationId (massOf s.conf.texX10 s.pcn.acc.good.m)
                 s.pcn.acc.good.m } :: s.stu.records).take 4 ∧
          t.stu.counts = { s.stu.counts with
            byHeard := min (s.stu.counts.byHeard + 1) max32
            renumberings := if s.stu.number + 1 < f.shift then
                min (s.stu.counts.renumberings + 1) max32
              else s.stu.counts.renumberings
            dropped := t.stu.counts.dropped } ∧
          ((∀ train, f.content ≠ .trainOffer train) → s.bcu.doff = none → s.bcu.hold = none →
            s.bcu.train = none → t.flc.queue = s.flc.queue ∧ t.flc.slot = s.flc.slot)))) ∧
  (∀ (s : State) (bytes : List Byte) (f : Frame), Heard s bytes f → Level s f →
    s.bcu.doff = none → s.bcu.hold = none → s.bcu.train = none → f.content.ofPeer = true →
    (∃ p ∈ s.flc.peers, p.id = f.sender) →
    exec (.floorFrameReceived bytes true) s = .next { s with flc := { s.flc with
      peers := s.flc.peers.map fun p =>
        if p.id = f.sender then peerAfter f s.flc.clock p else p
      counts := { s.flc.counts with
        goodFrames := min (s.flc.counts.goodFrames + 1) max32
        accepted := min (s.flc.counts.accepted + 1) max32 } } }) ∧
  (∀ (s : State) (bytes : List Byte) (f : Frame), Heard s bytes f → Level s f →
    s.bcu.doff = none → s.bcu.hold = none → s.bcu.train = none → f.content.ofPeer = true →
    (∀ p ∈ s.flc.peers, p.id ≠ f.sender) →
    (s.flc.peers.length < 48 → ∃ before after,
      s.flc.peers = before ++ after ∧
      (PeersInOrder s → (∀ p ∈ before, p.id < f.sender) ∧ ∀ p ∈ after, f.sender < p.id) ∧
      exec (.floorFrameReceived bytes true) s = .next { s with flc := { s.flc with
        peers := before ++ peerAfter f s.flc.clock (peerNew f) :: after
        counts := { s.flc.counts with
          goodFrames := min (s.flc.counts.goodFrames + 1) max32
          accepted := min (s.flc.counts.accepted + 1) max32 } } }) ∧
    (48 ≤ s.flc.peers.length →
      exec (.floorFrameReceived bytes true) s = .next { s with flc := { s.flc with
        counts := { s.flc.counts with
          goodFrames := min (s.flc.counts.goodFrames + 1) max32
          accepted := min (s.flc.counts.accepted + 1) max32
          tableFull := min (s.flc.counts.tableFull + 1) max32 } } })) ∧
  (∀ (s : State) (bytes : List Byte) (f : Frame) (r : TrainRecord) (g : Group), Heard s bytes f →
    Level s f → s.bcu.doff = none → s.bcu.hold = none → s.bcu.train = some r →
    s.group? r.group = some g →
    ∃ t, exec (.floorFrameReceived bytes true) s = .next t ∧
      (∀ k u, f.content = .trainClaim r.train k u →
        (u < r.urgency ∨ (u = r.urgency ∧ f.sender < s.conf.stationId) →
          t.bcu = { s.bcu with
            train := none
            counts := { s.bcu.counts with
              trainYields := min (s.bcu.counts.trainYields + 1) max32 } } ∧
          t.flc = { (offer (.trainYield r.train) s).flc with
            peers := t.flc.peers, counts := t.flc.counts } ∧
          t.cmn.counts = { s.cmn.counts with yields := min (s.cmn.counts.yields + 1) max32 } ∧
          t.group? r.group = some { g with
            state := if g.remaining ≤ s.conf.rovingLowM * 1000 ∨ s.conf.outQuorum ≤ g.out then .low
              else .fed
            train := none
            timer := none } ∧
          ∀ i, i ≠ r.group → t.group? i = s.group? i) ∧
        (r.urgency < u ∨ (u = r.urgency ∧ s.conf.stationId < f.sender) →
          t.bcu = s.bcu ∧ t.cmn = s.cmn)) ∧
      ((∃ k, f.content = .trainTake r.train k) ∨ f.content = .trainWithdrawn r.train →
        t.bcu = { s.bcu with
          train := none
          counts := { s.bcu.counts with
            trainAbandons := min (s.bcu.counts.trainAbandons + 1) max32 } } ∧
        t.cmn.counts.abandons = min (s.cmn.counts.abandons + 1) max32 ∧
        t.flc.queue = s.flc.queue ∧ t.flc.slot = s.flc.slot ∧
        t.group? r.group = some { g with
          state := if g.remaining ≤ s.conf.rovingLowM * 1000 ∨ s.conf.outQuorum ≤ g.out then .low
            else .fed
          train := none
          timer := none })) ∧
  (∀ (s : State) (bytes : List Byte) (f : Frame) (train : Nat), Heard s bytes f → Level s f →
    s.bcu.doff = none → s.bcu.hold = none → f.content = .trainOffer train →
    ∃ t, exec (.floorFrameReceived bytes true) s = .next t ∧
      ((∃ g ∈ s.cmn.groups, g.state = .claiming ∨ g.state = .awaiting) ∨
          (∀ g ∈ s.cmn.groups, g.state ≠ .low) ∨ s.dsq.phase = .doffing ∨
          s.dsq.phase = .restarting ∨ s.flc.link.sends = false →
        t.bcu = s.bcu ∧ t.cmn = { s.cmn with counts := { s.cmn.counts with
          offersPassed := min (s.cmn.counts.offersPassed + 1) max32 } }) ∧
      (∀ i g u, (∀ h ∈ s.cmn.groups, h.state ≠ .claiming ∧ h.state ≠ .awaiting) →
        s.dsq.phase ≠ .doffing → s.dsq.phase ≠ .restarting → s.flc.link.sends = true →
        s.group? i = some g → g.state = .low →
        (∀ j h, s.group? j = some h → h.state = .low →
          g.remaining < h.remaining ∨ (g.remaining = h.remaining ∧ i ≤ j)) →
        u = (if s.conf.outQuorum ≤ g.out then 0 else min (g.remaining / 1000) 65535) →
        (∀ p ∈ s.flc.peers, (∀ c, p.trainClaim = some c → c.train ≠ train) ∧
          ∀ c, p.trainTake = some c → c.train ≠ train) →
        t.group? i = some { g with state := .claiming, train := some train } ∧
        (∀ j, j ≠ i → t.group? j = s.group? j) ∧
        t.cmn.counts = { s.cmn.counts with
          claimsStarted := min (s.cmn.counts.claimsStarted + 1) max32 } ∧
        t.bcu = { s.bcu with
          train := some { train := train, group := i, urgency := u, left := s.conf.claimWindowMs }
          counts := { s.bcu.counts with
            trainClaims := min (s.bcu.counts.trainClaims + 1) max32 } } ∧
        t.flc = { (offer (.trainClaim train i u) s).flc with
          peers := t.flc.peers, counts := t.flc.counts })) ∧
  (∀ (s : State) (bytes : List Byte) (f : Frame), Heard s bytes f → Level s f →
    s.bcu.doff = none → s.bcu.hold = none →
    ∃ t, exec (.floorFrameReceived bytes true) s = .next t ∧
      (∀ i g train, f.content = .trainWithdrawn train → s.bcu.train = none → s.group? i = some g →
        g.state = .awaiting → g.train = some train →
        (∀ j h, j ≠ i → s.group? j = some h → h.state ≠ .awaiting) → s.plainAttention .creel →
        t.group? i = some { g with
          state := if g.remaining ≤ s.conf.rovingLowM * 1000 ∨ s.conf.outQuorum ≤ g.out then .low
            else .fed
          train := none
          timer := none } ∧
        (∀ j, j ≠ i → t.group? j = s.group? j) ∧ t.atc = (s.noted .creel).atc ∧
        t.cmn.counts = { s.cmn.counts with
          waitExpiries := min (s.cmn.counts.waitExpiries + 1) max32 }) ∧
      (∀ train station i, f.content = .trainDocked train station i →
        (station ≠ s.conf.stationId → t.cmn = s.cmn ∧ t.clc = s.clc) ∧
        (station = s.conf.stationId →
          (∀ g, s.group? i = some g → g.state = .awaiting → g.train = some train →
            t.group? i = some
              { g with state := .changing, timer := some (s.conf.creelMaxS * 1000) } ∧
            (∀ j, j ≠ i → t.group? j = s.group? j) ∧
            t.cmn.counts = { s.cmn.counts with
              dockings := min (s.cmn.counts.dockings + 1) max32 } ∧
            (TablesFit s → ∀ j, (t.clc.get (groupPlace s.n i).1).job = some j →
              sectionOf j.position ≠ (groupPlace s.n i).2)) ∧
          ((∀ g, s.group? i = some g → g.state ≠ .awaiting ∨ g.train ≠ some train) →
            t.clc = s.clc ∧ t.cmn = { s.cmn with counts := { s.cmn.counts with
              unexpected := min (s.cmn.counts.unexpected + 1) max32 } }))) ∧
      (∀ station i, f.content = .creelDone station i →
        (station ≠ s.conf.stationId → t.cmn = s.cmn ∧ t.spt = s.spt ∧ t.pcn = s.pcn) ∧
        (station = s.conf.stationId → s.group? i = none → t.spt = s.spt ∧ t.pcn = s.pcn ∧
          t.cmn = { s.cmn with counts := { s.cmn.counts with
            unexpected := min (s.cmn.counts.unexpected + 1) max32 } }) ∧
        (∀ g, station = s.conf.stationId → s.group? i = some g →
          ListAgrees s (groupPlace s.n i).1 →
          t.group? i = some
            { state := .fed
              remaining := s.conf.rovingLenM * 1000
              carry := 0
              out := g.out - countState
                (s.sectionSpindles (groupPlace s.n i).1 (groupPlace s.n i).2) .rovingOut
              train := none
              timer := none } ∧
          (∀ j, j ≠ i → t.group? j = s.group? j) ∧
          t.cmn.counts.renewals = min (s.cmn.counts.renewals + 1) max32 ∧
          t.pcn.acc = { s.pcn.acc with
            creelChanges := min (s.pcn.acc.creelChanges + 1) max32 })))

/-- R114, R115, R121: the frame that an attempt sends is good and reads back as the station's own
message, with its shift number and floor clock in the header's widths. That the clock is sent modulo
2^48 is the model's reading (notes/assumptions/22.md). -/
def Obligations.ComposedFramesReadBack : Prop :=
  ∀ (s : State) (m : Msg), 1 ≤ s.conf.stationId → s.conf.stationId ≤ 63 →
    frameGood (compose s m) true = true ∧
    parseFrame (compose s m) = some
      { sender := s.conf.stationId
        rail := false
        shift := s.stu.number % 2 ^ 32
        stamp := s.flc.clock % 2 ^ 48
        content := m.heard s }

/-- R125, R126, R127, R169: the SILENT timer's end enters JOIN with H at 0; the JOIN timer's end
enters ACTIVE, numbering an unnumbered shift 1, and offers a STATUS; the beacon offers a STATUS at
each expiry in ACTIVE and at every second one in CAUTIOUS. The order of the numbering and the entry
to ACTIVE is the model's reading (notes/assumptions/28.md). -/
def Obligations.LinkTimersMoveTheLink : Prop :=
  (∀ (s : State) (left : Nat), s.flc.silentTimer = some left →
    exec .silentTimerExpiry s = .next { s with flc := { s.flc with
      link := .join
      health := 0
      silentTimer := none
      beaconTimer := none
      joinTimer := some (3 * s.conf.statusMs) } }) ∧
  (∀ (s : State) (left : Nat), s.flc.joinTimer = some left → s.flc.queue = [] →
    s.flc.slot = none → s.bcu.hold = none → s.dsq.phase ≠ .due → s.flc.health < 64 →
    ∃ k, (0 < s.flc.width → k < s.flc.width) ∧
      exec .joinTimerExpiry s = .next { s with
        flc := { s.flc with
          link := .active
          joinTimer := none
          beaconTimer := some s.conf.statusMs
          slot := some { msg := .status, attempts := 0, slotsLeft := k, sending := none } }
        stu := if s.stu.number = 0 then
            { s.stu with
              number := 1
              counts := { s.stu.counts with
                adoptions := min (s.stu.counts.adoptions + 1) max32
                selfNumberings := min (s.stu.counts.selfNumberings + 1) max32 } }
          else s.stu
        pcn := if s.stu.number = 0 then
            { s.pcn with acc := { s.pcn.acc with shiftStart := s.flc.clock } }
          else s.pcn
        free := s.free + 1 }) ∧
  (∀ (s : State) (left : Nat), s.flc.beaconTimer = some left →
    (s.flc.link = .cautious → s.flc.skip = false →
      exec .beaconTimerExpiry s = .next { s with flc := { s.flc with
        beaconTimer := some s.conf.statusMs, skip := true } }) ∧
    (s.flc.queue = [] → s.flc.slot = none →
      s.flc.link = .active ∨ (s.flc.link = .cautious ∧ s.flc.skip = true) →
      ∃ k, (0 < s.flc.width → k < s.flc.width) ∧
        exec .beaconTimerExpiry s = .next { s with
          flc := { s.flc with
            beaconTimer := some s.conf.statusMs
            skip := if s.flc.link = .active then s.flc.skip else false
            slot := some { msg := .status, attempts := 0, slotsLeft := k, sending := none } }
          free := s.free + 1 }))

/-- R120 to R122, R124: an offered message is refused in OFF, SILENT and CONFLICT; else it is placed by
class and within a class by its offering, a second STATUS in the place of the first, with the newest
message of the highest class displaced from a full queue, or dropped where no class there is higher; and
with nothing else waiting it enters the slot of a link that sends. At backoff zero the attempt is
counted and the message composed, and a countdown that stops keeps the slots that remain. A collision
before the 16th attempt doubles W, up to 256, and draws again; at the 16th the message is dropped, W
returns to 8 and H rises by 8. A clean send returns W to 8, lowers H by 1 and moves the queue's head
into the slot. The draw is a free value (notes/assumptions/7.md); where H is tested is the model's
reading (notes/assumptions/28.md). -/
def Obligations.AttemptsRunToTheirEnds : Prop :=
  (∀ (s : State) (m : Msg),
      (s.flc.link = .off ∨ s.flc.link = .silent ∨ s.flc.link = .conflict →
        offer m s = { s with flc := { s.flc with counts := { s.flc.counts with
          refused := min (s.flc.counts.refused + 1) max32 } } }) ∧
      (s.flc.link = .active ∨ s.flc.link = .cautious → s.flc.slot = none → s.flc.queue = [] →
        ∃ k, (0 < s.flc.width → k < s.flc.width) ∧
          offer m s = { s with
            flc := { s.flc with
              slot := some { msg := m, attempts := 0, slotsLeft := k, sending := none } }
            free := s.free + 1 }) ∧
      (s.flc.link = .join ∨
          ((s.flc.link = .active ∨ s.flc.link = .cautious) ∧ s.flc.slot.isSome = true) →
        QueueInOrder s →
        (m = .status → .status ∈ s.flc.queue → offer m s = s) ∧
        (¬(m = .status ∧ .status ∈ s.flc.queue) → s.flc.queue.length < 16 →
          ∃ before after, s.flc.queue = before ++ after ∧ (∀ x ∈ before, x.cls ≤ m.cls) ∧
            (∀ x ∈ after, m.cls < x.cls) ∧
            offer m s = { s with flc := { s.flc with queue := before ++ m :: after } }) ∧
        (¬(m = .status ∧ .status ∈ s.flc.queue) → s.flc.queue.length = 16 →
          (∃ x ∈ s.flc.queue, m.cls < x.cls) →
          ∃ before after last, s.flc.queue = before ++ after ++ [last] ∧
            (∀ x ∈ s.flc.queue, x.cls ≤ last.cls) ∧ m.cls < last.cls ∧
            (∀ x ∈ before, x.cls ≤ m.cls) ∧ (∀ x ∈ after, m.cls < x.cls) ∧
            offer m s = { s with flc := { s.flc with
              queue := before ++ m :: after
              counts := { s.flc.counts with
                queueDrops := min (s.flc.counts.queueDrops + 1) max32 } } }) ∧
        (¬(m = .status ∧ .status ∈ s.flc.queue) → s.flc.queue.length = 16 →
          (∀ x ∈ s.flc.queue, x.cls ≤ m.cls) →
          offer m s = { s with flc := { s.flc with counts := { s.flc.counts with
            queueDrops := min (s.flc.counts.queueDrops + 1) max32 } } }))) ∧
  (∀ m : Msg, m.cls = match m with
      | .shiftClose _ => 2
      | .status => 3
      | .shiftReport _ _ _ _ _ _ _ => 4
      | .doffClaim _ | .doffYield | .doffStart | .doffEnd | .trainClaim _ _ _ | .trainYield _
        | .trainTake _ _ => 1) ∧
  (∀ (s : State) (sl : Slot), s.flc.slot = some sl → sl.sending = none →
      exec .transmitAttemptStart s = .next { s with flc := { s.flc with
        slot := some
          { msg := sl.msg
            attempts := sl.attempts + 1
            slotsLeft := 0
            sending := some (compose s sl.msg) }
        counts := { s.flc.counts with attempts := min (s.flc.counts.attempts + 1) max32 } } } ∧
      ∀ counted : Nat,
        exec (.backoffCountdownStopped counted) s = .next { s with flc := { s.flc with
          slot := some { sl with slotsLeft := sl.slotsLeft - counted } } }) ∧
  (∀ (s : State) (sl : Slot) (bytes : List Byte), s.flc.slot = some sl →
      sl.sending = some bytes →
      (sl.attempts < 16 → ∃ k, (0 < s.flc.width → k < min 256 (2 * s.flc.width)) ∧
        exec .collision s = .next { s with
          flc := { s.flc with
            width := min 256 (2 * s.flc.width)
            slot := some { sl with slotsLeft := k, sending := none }
            counts := { s.flc.counts with
              collisions := min (s.flc.counts.collisions + 1) max32 } }
          free := s.free + 1 }) ∧
      (16 ≤ sl.attempts → s.flc.link = .active → s.flc.health < 56 → s.flc.queue = [] →
        exec .collision s = .next { s with flc := { s.flc with
          width := 8
          slot := none
          health := s.flc.health + 8
          counts := { s.flc.counts with
            collisions := min (s.flc.counts.collisions + 1) max32
            exhausted := min (s.flc.counts.exhausted + 1) max32 } } }) ∧
      (s.flc.link = .active → s.flc.health ≤ 64 → s.flc.queue = [] →
        exec .cleanSend s = .next { s with flc := { s.flc with
          width := 8
          slot := none
          health := s.flc.health - 1
          counts := { s.flc.counts with sent := min (s.flc.counts.sent + 1) max32 } } }) ∧
      (∀ m rest, s.flc.link = .active → s.flc.health ≤ 64 → s.flc.queue = m :: rest →
        ∃ k, k < 8 ∧ exec .cleanSend s = .next { s with
          flc := { s.flc with
            width := 8
            queue := rest
            slot := some { msg := m, attempts := 0, slotsLeft := k, sending := none }
            health := s.flc.health - 1
            counts := { s.flc.counts with sent := min (s.flc.counts.sent + 1) max32 } }
          free := s.free + 1 }))

/-- R131: a peer timer's expiry removes the entry, and a stale timer's expiry clears its one item; with
no doff claim and no hold record nothing else changes. -/
def Obligations.PeerEntriesExpire : Prop :=
  ∀ (s : State) (id : Nat), s.bcu.doff = none → s.bcu.hold = none →
    ((∃ p ∈ s.flc.peers, p.id = id) →
      exec (.peerTimerExpiry id) s = .next { s with flc := { s.flc with
        peers := s.flc.peers.filter (fun p => p.id != id)
        counts := { s.flc.counts with
          peerExpiries := min (s.flc.counts.peerExpiries + 1) max32 } } }) ∧
    ((∃ p ∈ s.flc.peers, p.id = id ∧ p.doffClaim.isSome = true) →
      exec (.staleTimerExpiry id .doffClaim) s = .next { s with flc := { s.flc with
        peers := s.flc.peers.map fun p => if p.id = id then { p with doffClaim := none } else p
        counts := { s.flc.counts with
          claimExpiries := min (s.flc.counts.claimExpiries + 1) max32 } } }) ∧
    ((∃ p ∈ s.flc.peers, p.id = id ∧ p.trainClaim.isSome = true) →
      exec (.staleTimerExpiry id .trainClaim) s = .next { s with flc := { s.flc with
        peers := s.flc.peers.map fun p => if p.id = id then { p with trainClaim := none } else p
        counts := { s.flc.counts with
          claimExpiries := min (s.flc.counts.claimExpiries + 1) max32 } } }) ∧
    ((∃ p ∈ s.flc.peers, p.id = id ∧ p.trainTake.isSome = true) →
      exec (.staleTimerExpiry id .trainTake) s = .next { s with flc := { s.flc with
        peers := s.flc.peers.map fun p => if p.id = id then { p with trainTake := none } else p
        counts := { s.flc.counts with
          claimExpiries := min (s.flc.counts.claimExpiries + 1) max32 } } })

/-! ### Claims, the doff and the creel -/

/-- R37, R56, R65, R94, R139, R156: a doff window that expires with D below DOFF_LIMIT wins: DOFF_START is
offered, DOFF_GO asserted and the doff timer started; the lists are emptied, every cop is 0, the
spindles outside BLOCKED, ROVING_OUT and SENSOR_FAULT wait for the doff, and each carriage loses its
job and record. -/
def Obligations.WonWindowStartsTheDoff : Prop :=
  ∀ (s : State) (r : DoffRecord), s.bcu.doff = some r → s.dCount r.urgency < s.conf.doffLimit →
    s.plainAttention .doff →
    ∃ t, exec .doffWindowExpiry s = .next t ∧
      t.bcu = { s.bcu with
        doff := none
        counts := { s.bcu.counts with doffWins := min (s.bcu.counts.doffWins + 1) max32 } } ∧
      t.dsq = { s.dsq with
        phase := .doffing
        due := none
        doffGo := true
        stopReq := false
        progress := 0
        doffTimer := some 900000
        longDoff := false
        counts := { s.dsq.counts with started := min (s.dsq.counts.started + 1) max32 } } ∧
      t.flc = (offer .doffStart s).flc ∧ t.atc = (s.noted .doff).atc ∧
      (∀ sd, (t.bdp.get sd) = { s.bdp.get sd with
        entries := [], wake := none, fullReported := false }) ∧
      (∀ sd, (t.clc.get sd).doffDemand = true ∧ (t.clc.get sd).job = none ∧
        (t.clc.get sd).record = none ∧ (t.clc.get sd).jobTimer = none ∧
        ((s.clc.get sd).tierDemand = false → (t.clc.get sd).eff ≠ .dispatched)) ∧
      (∀ sd pos q, s.spindle? sd pos = some q → ∃ q1, t.spindle? sd pos = some q1 ∧
        q1.cop = 0 ∧ q1.state =
          (match q.state with
          | .blocked => .blocked
          | .rovingOut => .rovingOut
          | .doffWait => .doffWait
          | .sensorFault => .sensorFault
          | _ => .doffWait)) ∧
      t.pcn.acc.doffs = min (s.pcn.acc.doffs + 1) max32 ∧ t.pcn.delta = s.pcn.delta ∧
      t.cfg = s.cfg ∧ t.ssc = s.ssc ∧ t.cmn = s.cmn ∧ t.stu = s.stu ∧ t.hpt = s.hpt ∧
      t.pins = s.pins

/-- R139, R140, R153, R154: a doff window that expires with D at DOFF_LIMIT or more yields into HOLDING
with a hold-off; when the hold-off expires the claim starts again if the link sends and D is below
DOFF_LIMIT, and else the record waits. -/
def Obligations.HeldClaimsWaitAndReclaim : Prop :=
  (∀ (s : State) (r : DoffRecord), s.bcu.doff = some r → s.conf.doffLimit ≤ s.dCount r.urgency →
    s.dsq.overfull = false →
    ∃ t, exec .doffWindowExpiry s = .next t ∧
      t = { s with
        flc := (offer .doffYield s).flc
        free := (offer .doffYield s).free
        bcu := { s.bcu with
          doff := none
          hold := some { urgency := r.urgency, holdOff := some s.conf.claimWindowMs }
          counts := { s.bcu.counts with
            doffYields := min (s.bcu.counts.doffYields + 1) max32 } }
        dsq := { s.dsq with
          phase := .holding
          counts := { s.dsq.counts with
            holdings := min (s.dsq.counts.holdings + 1) max32 } } }) ∧
  (∀ (s : State) (h : HoldRecord) (left : Nat), s.bcu.hold = some h → h.holdOff = some left →
    ((s.flc.link.sends = false ∨ s.conf.doffLimit ≤ s.dCount h.urgency) →
      exec .holdOffExpiry s = .next { s with
        bcu := { s.bcu with hold := some { h with holdOff := none } } }) ∧
    (s.flc.link.sends = true → s.dCount h.urgency < s.conf.doffLimit →
      ∃ u, (s.dsq.overfull = true → u = 0) ∧
        (∀ d, s.dsq.overfull = false → s.dsq.due = some d → u = d) ∧
        exec .holdOffExpiry s = .next { s with
          flc := (offer (.doffClaim u) s).flc
          free := (offer (.doffClaim u) s).free
          bcu := { s.bcu with
            doff := some { urgency := u, left := s.conf.claimWindowMs }
            hold := none
            counts := { s.bcu.counts with
              slotOpen := min (s.bcu.counts.slotOpen + 1) max32
              doffClaims := min (s.bcu.counts.doffClaims + 1) max32 } }
          dsq := { s.dsq with phase := .claiming } }))

/-- R38, R95, R149, R157 to R160: in DOFFING the rise of DOFF_DONE offers DOFF_END, drops DOFF_GO and begins
restart evaluation, and the doff timer's expiry marks a long doff; outside DOFFING the rise is stray.
At the restart limit every DOFF_WAIT spindle becomes UNKNOWN and the frame spins. The completion of the
last read of the referenced pass that brings the second side's count to VERIFY_PASSES ends the
evaluation COMPLETE: a DOFF_WAIT spindle without a ratio becomes UNKNOWN, one with a good read RUNNING,
and any other BROKEN with a restart end-down. A carriage that is READY on a frame whose drive is on,
which no run reaches, is left out. -/
def Obligations.DoffEndsAndRestarts : Prop :=
  (∀ s : State, s.serving → s.dsq.phase = .doffing →
    ∃ t, exec .doffDoneRise s = .next t ∧
      t.pins = { s.pins with doffDone := true } ∧
      t.dsq = { s.dsq with
        phase := .restarting
        doffGo := false
        doffTimer := none
        passCount := ⟨0, 0⟩
        limitTimer := some 600000 } ∧
      t.flc = (offer .doffEnd s).flc ∧
      (∀ sd pos q, s.spindle? sd pos = some q →
        t.spindle? sd pos = some (if q.state = .doffWait then
          { q with ratio := none, breakCount := 0, slackCount := 0, goodCount := 0 } else q)) ∧
      t.cfg = s.cfg ∧ t.pcn = s.pcn ∧ t.bdp = s.bdp ∧ t.clc = s.clc ∧ t.cmn = s.cmn ∧
      t.bcu = s.bcu ∧ t.stu = s.stu ∧ t.hpt = s.hpt ∧ t.atc = s.atc) ∧
  (∀ s : State, s.serving → s.dsq.phase ≠ .doffing →
    exec .doffDoneRise s = .next { s with
      pins := { s.pins with doffDone := true }
      dsq := { s.dsq with counts := { s.dsq.counts with
        stray := min (s.dsq.counts.stray + 1) max32 } } }) ∧
  (∀ (s : State) (left : Nat), s.dsq.doffTimer = some left → s.dsq.phase = .doffing →
    s.plainAttention .doff →
    exec .doffTimerExpiry s = .next (({ s with dsq := { s.dsq with
      doffTimer := none
      longDoff := true
      counts := { s.dsq.counts with
        longDoffs := min (s.dsq.counts.longDoffs + 1) max32 } } } : State).noted .doff)) ∧
  (∀ (s : State) (left : Nat), s.dsq.limitTimer = some left → s.dsq.phase = .restarting →
    (s.pins.driveRun = false ∨ ∀ sd, (s.clc.get sd).state ≠ .ready) →
    ∃ t, exec .restartLimitExpiry s = .next t ∧
      t.dsq = { s.dsq with
        phase := .spinning
        overfull := false
        limitTimer := none
        counts := { s.dsq.counts with
          completed := min (s.dsq.counts.completed + 1) max32
          limitRestarts := min (s.dsq.counts.limitRestarts + 1) max32 } } ∧
      (∀ sd pos q, s.spindle? sd pos = some q → q.state ≠ .doffWait →
        t.spindle? sd pos = some q) ∧
      (∀ sd pos q, s.spindle? sd pos = some q → q.state = .doffWait →
        ∃ q1, t.spindle? sd pos = some q1 ∧ q1.state = .unknown ∧ q1.attempts = 0) ∧
      (∀ sd, (t.clc.get sd).doffDemand = false ∧ (t.clc.get sd).state = (s.clc.get sd).state) ∧
      t.cfg = s.cfg ∧ t.ssc = s.ssc ∧ t.pcn = s.pcn ∧ t.bdp = s.bdp ∧ t.cmn = s.cmn ∧
      t.flc = s.flc ∧ t.bcu = s.bcu ∧ t.stu = s.stu ∧ t.hpt = s.hpt ∧ t.atc = s.atc) ∧
  (∀ (s : State) (sd : Side) (k : Nat) (x : Section) (p : Pass), LastOfPass s sd k x p →
    TablesFit s → s.dsq.phase = .restarting → p.referenced = true → p.afterDoff = true →
    (∀ other, other ≠ sd → s.conf.verifyPasses ≤ s.dsq.passCount.get other) →
    s.conf.verifyPasses ≤ s.dsq.passCount.get sd + 1 →
    (s.pins.driveRun = false ∨ ∀ side, (s.clc.get side).state ≠ .ready) →
    ∃ t, exec (.readAnswerTimeout sd) s = .next t ∧
      JudgedComplete s t ∧
      (∀ side, s.conf.verifyPasses ≤ t.dsq.passCount.get side) ∧
      t.dsq = { s.dsq with
        progress := t.dsq.progress
        passCount := t.dsq.passCount
        phase := .spinning
        overfull := false
        limitTimer := none
        counts := { s.dsq.counts with
          completed := min (s.dsq.counts.completed + 1) max32 } } ∧
      (∀ side, (t.clc.get side).doffDemand = false ∧
        (t.clc.get side).state = (s.clc.get side).state ∧
        (t.clc.get side).job = (s.clc.get side).job ∧
        ((s.clc.get side).state = .parked → (s.clc.get side).tierDemand = false →
          (s.clc.get side).outstanding = none → (s.clc.get side).resumeTaken = false →
          (t.clc.get side).outstanding =
            some { kind := .resume, number := (s.clc.get side).lastOrder + 1 })) ∧
      t.cfg = s.cfg ∧ t.flc = s.flc ∧ t.bcu = s.bcu ∧ t.stu = s.stu ∧ t.hpt = s.hpt ∧
      t.pins = s.pins)

/-- R101, R104, R105, R107, R142: a train window that expires wins the train for its group, which awaits
it; an AWAITING group whose timer runs out settles by the LOW test; a CHANGING group whose timer runs
out is STALLED. -/
def Obligations.TrainAndCreelTimersMoveTheGroup : Prop :=
  (∀ (s : State) (r : TrainRecord) (g : Group), s.bcu.train = some r →
    s.group? r.group = some g →
    ∃ t, exec .trainWindowExpiry s = .next t ∧
      t.flc = (offer (.trainTake r.train r.group) s).flc ∧
      t.bcu = { s.bcu with
        train := none
        counts := { s.bcu.counts with trainWins := min (s.bcu.counts.trainWins + 1) max32 } } ∧
      t.group? r.group =
        some { g with state := .awaiting, timer := some (s.conf.trainWaitS * 1000) } ∧
      (∀ i, i ≠ r.group → t.group? i = s.group? i) ∧
      t.cmn.counts = { s.cmn.counts with
        trainsWon := min (s.cmn.counts.trainsWon + 1) max32 } ∧
      t.cfg = s.cfg ∧ t.ssc = s.ssc ∧ t.spt = s.spt ∧ t.pcn = s.pcn ∧ t.bdp = s.bdp ∧
      t.clc = s.clc ∧ t.dsq = s.dsq ∧ t.stu = s.stu ∧ t.hpt = s.hpt ∧ t.atc = s.atc) ∧
  (∀ (s : State) (index left : Nat) (g : Group), s.group? index = some g →
    g.timer = some left → s.plainAttention .creel →
    (g.state = .awaiting → ∃ t, exec (.trainWaitExpiry index) s = .next t ∧
      t.group? index = some { g with
        state := if g.remaining ≤ s.conf.rovingLowM * 1000 ∨ s.conf.outQuorum ≤ g.out then .low
          else .fed
        train := none
        timer := none } ∧
      (∀ i, i ≠ index → t.group? i = s.group? i) ∧
      t = { (s.noted .creel) with cmn := { t.cmn with counts := { s.cmn.counts with
        waitExpiries := min (s.cmn.counts.waitExpiries + 1) max32 } } }) ∧
    (g.state = .changing → ∃ t, exec (.creelMaxExpiry index) s = .next t ∧
      t.group? index = some { g with state := .stalled, timer := none } ∧
      (∀ i, i ≠ index → t.group? i = s.group? i) ∧
      t = { (s.noted .creel) with cmn := { t.cmn with counts := { s.cmn.counts with
        stalls := min (s.cmn.counts.stalls + 1) max32 } } }))

/-! ### Shifts -/

/-- R54, R166, R167, R171 to R173: when the floor clock comes to the shift end the shift is closed with the next
number: its figures go to a new first record of at most four, the accumulators keep their millimetre
remainders only, and SHIFT_CLOSE is offered; a wake stamp that the clock has passed is reached before
it; a record's report timer offers its report. A heard SHIFT_CLOSE is counted, and a heard SHIFT_REPORT
enters the tally of its shift. That the command brings the clock to the shift end, and the order, are
the model's choice (notes/assumptions/3.md). -/
def Obligations.ShiftEndClosesTheShift : Prop :=
  (∀ (s : State) (now : Nat), 1 ≤ s.stu.number → s.stu.number < 4294967295 →
    now = max s.flc.clock (s.pcn.acc.shiftStart + s.conf.shiftMin * 60000) →
    s.plainAttention .shift →
    (∀ sd u, (s.bdp.get sd).wake = some u → now < u) →
    ∃ t, exec .shiftEndReached s = .next t ∧
      t.stu.number = s.stu.number + 1 ∧
      t.stu.records =
        ({ shift := s.stu.number
           start := s.pcn.acc.shiftStart
           stop := now
           figures := closingFigures s.pcn.acc s.conf.texX10
           renumbered := false
           offered := false
           reportTimer := some (s.conf.stationId * 100)
           tally := Tally.own s.conf.stationId (massOf s.conf.texX10 s.pcn.acc.good.m)
             s.pcn.acc.good.m } :: s.stu.records).take 4 ∧
      t.stu.counts = { s.stu.counts with
        byTimer := min (s.stu.counts.byTimer + 1) max32
        dropped := t.stu.counts.dropped } ∧
      t.pcn = { s.pcn with acc := { Accum.zero with
        good := ⟨0, s.pcn.acc.good.mm⟩
        slack := ⟨0, s.pcn.acc.slack.mm⟩
        unobserved := ⟨0, s.pcn.acc.unobserved.mm⟩
        copSum := ⟨0, s.pcn.acc.copSum.mm⟩
        shiftStart := now } } ∧
      t.flc = { (offer (.shiftClose s.stu.number) s).flc with clock := now } ∧
      t.atc = (s.noted .shift).atc ∧
      t.cfg = s.cfg ∧ t.ssc = s.ssc ∧ t.spt = s.spt ∧ t.bdp = s.bdp ∧ t.clc = s.clc ∧
      t.cmn = s.cmn ∧ t.bcu = s.bcu ∧ t.dsq = s.dsq ∧ t.hpt = s.hpt) ∧
  (∀ (s : State) (now : Nat), 1 ≤ s.stu.number → s.stu.number < 4294967295 →
    now = max s.flc.clock (s.pcn.acc.shiftStart + s.conf.shiftMin * 60000) →
    ∃ t, exec .shiftEndReached s = .next t ∧ t.flc.clock = now ∧
      t.stu.number = s.stu.number + 1 ∧
      (∀ sd u, (t.bdp.get sd).wake = some u → now < u)) ∧
  (∀ (s : State) (shift : Nat) (r : ClosedRecord), s.record? shift = some r →
    r.reportTimer.isSome = true →
    ∃ m, m = .shiftReport r.shift r.figures.good r.figures.slack r.figures.mass r.figures.doffs
        r.figures.breaks r.figures.efficiency ∧
      exec (.reportTimerExpiry shift) s = .next { s with
        flc := (offer m s).flc
        free := (offer m s).free
        stu := { s.stu with records := s.stu.records.map fun x =>
          if x.shift = shift then { x with offered := true, reportTimer := none } else x } }) ∧
  (∀ (s : State) (bytes : List Byte) (f : Frame), Heard s bytes f → Level s f →
    ∃ t, exec (.floorFrameReceived bytes true) s = .next t ∧
      (∀ n, f.content = .shiftClose n → t.stu = { s.stu with
        counts := { s.stu.counts with
          closesHeard := min (s.stu.counts.closesHeard + 1) max32 } }) ∧
      (∀ n good mass, f.content = .shiftReport n good mass →
        (inBay s.conf f.sender = false → t.stu = { s.stu with
          counts := { s.stu.counts with
            outOfBay := min (s.stu.counts.outOfBay + 1) max32 } }) ∧
        (inBay s.conf f.sender = true → s.record? n = none → t.stu = { s.stu with
          counts := { s.stu.counts with
            unmatched := min (s.stu.counts.unmatched + 1) max32 } }) ∧
        (∀ r, inBay s.conf f.sender = true → s.record? n = some r → ∃ tally,
          t.record? n = some { r with tally := tally } ∧
          (∀ m, m ≠ n → t.record? m = s.record? m) ∧ t.stu.number = s.stu.number ∧
          ((∀ e ∈ r.tally.entries, e.id ≠ f.sender) → r.tally.entries.length < 48 →
            (∀ e, e ∈ tally.entries ↔
              e ∈ r.tally.entries ∨ e = { id := f.sender, mass := mass, good := good }) ∧
            tally.count = r.tally.count + 1 ∧ tally.massSum = r.tally.massSum + mass ∧
            tally.goodSum = r.tally.goodSum + good ∧
            t.stu.counts = { s.stu.counts with
              tallied := min (s.stu.counts.tallied + 1) max32 }) ∧
          ((∀ e ∈ r.tally.entries, e.id ≠ f.sender) → 48 ≤ r.tally.entries.length →
            tally = r.tally ∧
            t.stu.counts = { s.stu.counts with
              tallyFull := min (s.stu.counts.tallyFull + 1) max32 }) ∧
          (∀ old, r.tally.entries.find? (fun e => e.id == f.sender) = some old →
            tally.entries = r.tally.entries.map (fun e =>
              if e.id = f.sender then { id := f.sender, mass := mass, good := good } else e) ∧
            tally.count = r.tally.count ∧
            tally.massSum = r.tally.massSum - old.mass + mass ∧
            tally.goodSum = r.tally.goodSum - old.good + good ∧
            t.stu.counts = { s.stu.counts with
              replaced := min (s.stu.counts.replaced + 1) max32 }))))

/-! ### The host port -/

/-- R177, R178, R183: a request that comes while a RESTART is being served is ignored and counted; else
its form, its code, its payload length and the configuration are tested in that order, and the first
test that fails gives the answer and changes nothing else. -/
def Obligations.RequestsAreChecked : Prop :=
  ∀ (s : State) (code : Byte) (body : List Byte),
    (s.hpt.restarting = true →
      exec (requestOf code body) s = .next { s with hpt := { s.hpt with
        ignored := min (s.hpt.ignored + 1) max32 } } ∧
      ∀ bytes, exec (.ignoredWrite bytes) s = .next { s with hpt := { s.hpt with
        ignored := min (s.hpt.ignored + 1) max32 } }) ∧
    (s.hpt.restarting = false → payloadOf body = none →
      exec (requestOf code body) s = .next (s.answered code .range .empty [])) ∧
    (∀ p, s.hpt.restarting = false → payloadOf body = some p →
      (24 < code.toNat ∨ code.toNat = 0 →
        exec (requestOf code body) s = .next (s.answered code .unknownRequest .empty [])) ∧
      (1 ≤ code.toNat → code.toNat ≤ 24 → requestLength code.toNat p.length = false →
        exec (requestOf code body) s = .next (s.answered code .range .empty [])) ∧
      (2 ≤ code.toNat → code.toNat ≤ 24 → code.toNat ≠ 3 →
        requestLength code.toNat p.length = true → s.configured = false →
        exec (requestOf code body) s = .next (s.answered code .notConfigured .empty [])) ∧
      (code.toNat = 1 → p.length ≤ 120 → s.configured = true →
        exec (requestOf code body) s = .next (s.answered code .already .empty [])))

/-- R179: an answer with any status other than OK and CLAMPED has changed nothing in the station, apart
from the port's own answer and counts. -/
def Obligations.RefusedRequestsChangeNothing : Prop :=
  ∀ (s t : State) (code : Byte) (body : List Byte) (a : Answer),
    exec (requestOf code body) s = .next t → t.hpt.current = some a →
    a.status ≠ .ok → a.status ≠ .clamped →
    t = { s with
      free := t.free
      hpt := { s.hpt with
        current := t.hpt.current
        ready := t.hpt.ready
        discarded := t.hpt.discarded
        ignored := t.hpt.ignored } }

/-- R180 to R182: every field of an accepted configuration lies in its range, and the three relations hold
between the fields. -/
def Obligations.AcceptedFieldsAreInRange : Prop :=
  (∀ (fields : List (Nat × Nat)) (c : Cfg), c = acceptedCfg fields →
    (∀ code r, fieldRange code = some r → r.lo ≤ cfgField c code ∧ cfgField c code ≤ r.hi) ∧
    c.breakLevel + 100 ≤ c.slackLevel ∧ c.doffLeadM + 100 ≤ c.doffTargetM ∧
    2 * c.rovingLowM ≤ c.rovingLenM ∧ c.attnMode ≤ 1 ∧ c.attnEnable < 512 ∧
    c.attnEnable.testBit 8 = true) ∧
  (∀ (p : List Byte) (c : Cfg), refusedCodes p = [] → c = acceptedCfg (fieldList p) →
    1 ≤ c.stationId ∧ c.stationId ≤ 63 ∧
    48 ≤ c.sideSpindles ∧ c.sideSpindles ≤ 864 ∧ c.sideSpindles % 24 = 0 ∧
    c.carriages ≤ 3 ∧ p.length % 3 = 0 ∧
    ∀ field ∈ fieldList p, 1 ≤ field.1 ∧ field.1 ≤ 40)

/-- R22, R43, R84, R99, R125, R181, R182, R187: CONFIGURE with a refused field list answers RANGE with the
codes and changes nothing else; an accepted one starts the scanner, the table, the fitted carriages,
the creel groups and the JOIN listen, takes ATTN_MODE and ATTN_ENABLE while the attention flags and
counts stand, and answers OK when every field was in range, and else CLAMPED with the clamped codes and
the values they now hold. The order of the refused and of the clamped codes is the model's choice
(notes/assumptions/17.md), and so is that CONFIGURE gives no pulse (notes/assumptions/30.md). -/
def Obligations.ConfigureStartsTheStation : Prop :=
  ∀ (s : State) (body p : List Byte), s.configured = false → s.hpt.restarting = false →
    payloadOf body = some p → p.length ≤ 120 →
    (refusedCodes p ≠ [] → ∃ bytes, bytes.length ≤ 4096 ∧
      exec (.configure body) s = .next (({ s with free := s.free + 1 } : State).answered 1 .range
        (.refusedFields (refusedCodes p)) bytes)) ∧
    (∀ c, refusedCodes p = [] → c = acceptedCfg (fieldList p) → ColdUntilConfigured s →
      ∃ t, exec (.configure body) s = .next t ∧
        t.cfg = some c ∧
        ((∀ code, cfgField (givenCfg (fieldList p)) code = cfgField c code) →
          t.hpt = (s.answered 1 .ok .empty []).hpt) ∧
        ((∃ code, cfgField (givenCfg (fieldList p)) code ≠ cfgField c code) →
          ∃ fields bytes, bytes.length ≤ 4096 ∧
            t.hpt = (s.answered 1 .clamped (.clampedFields fields) bytes).hpt ∧
            ∀ field, field ∈ fields ↔ 1 ≤ field.1 ∧ field.1 ≤ 40 ∧
              cfgField (givenCfg (fieldList p)) field.1 ≠ cfgField c field.1 ∧
              field.2 = cfgField c field.1) ∧
        t.flc.link = .join ∧ t.flc.joinTimer = some (3 * c.statusMs) ∧
        t.flc.clock = s.flc.clock ∧
        (∀ sd, t.spt.spindles.get sd = List.replicate c.sideSpindles Spindle.fresh) ∧
        (∀ sd, (t.ssc.chains.get sd).pass.map Pass.section_ = some 1 ∧
          (t.ssc.chains.get sd).read = some { section_ := 1, step := 8, sent := [1, 8] } ∧
          (t.ssc.chains.get sd).passTimer = some c.passMs ∧
          (t.ssc.chains.get sd).passes = 1) ∧
        t.ssc.idleTimer = some (c.idleDownS * 1000) ∧
        (∀ sd, (t.clc.get sd).state =
          if fitted c sd = true then .connecting else .disconnected) ∧
        t.cmn.groups = List.replicate (2 * (c.sideSpindles / 24)) (Group.fresh c) ∧
        t.atc.mode = (if c.attnMode = 1 then .pulse else .level) ∧ t.atc.pulses = s.atc.pulses ∧
        (∀ k, t.atc.classes.get k =
          { pending := (s.atc.classes.get k).pending
            count := (s.atc.classes.get k).count
            enabled := c.attnEnable.testBit k.bit || k == .frameAlert }) ∧
        t.pcn.acc = Accum.zero ∧ t.dsq = s.dsq ∧ t.bcu = s.bcu ∧ t.stu = s.stu ∧
        t.pins = s.pins)

/-- R186 with R23, R43, R74, R98, R112, R134, R146, R164, R176, R185: RESTART is taken without an
answer; when it has taken effect the answer OK is made, the cause is WARM and the copy idle, passes
start anew, the lists, the claims, the peer table and the transmit side are empty, the groups and the
doff go on by their states, and the accumulators, the shift, the attention flags and the configuration
stand. Every block's counts are kept, but for the messages cleared, which the restart itself counts.
That every effect comes at RESTART_COMPLETE is the model's reading (notes/assumptions/4.md). -/
def Obligations.RestartKeepsTheCounts : Prop :=
  (∀ (s : State) (body : List Byte), s.serving → payloadOf body = some [] →
    exec (.restart body) s = .next { s with hpt := { s.hpt with
      current := none
      ready := false
      restarting := true
      discarded :=
        if s.hpt.current.isSome then min (s.hpt.discarded + 1) max32 else s.hpt.discarded } }) ∧
  (∀ s : State, s.hpt.restarting = true → s.hpt.waiting = [] →
    ∃ t, exec .restartComplete s = .next t ∧
      t.hpt = { s.hpt with
        current := some { code := 2, status := .ok, payload := .empty, bytes := [] }
        ready := true
        restarting := false
        copy := none
        cause := .warm } ∧
      t.ssc.tier = .run ∧ t.ssc.idleTimer = some (s.conf.idleDownS * 1000) ∧
      t.ssc.tin = s.ssc.tin ∧ t.ssc.fr = s.ssc.fr ∧ t.ssc.counts = s.ssc.counts ∧
      (∀ sd, (t.ssc.chains.get sd).pass.map Pass.section_ = some 1 ∧
        (t.ssc.chains.get sd).passTimer = some s.conf.passMs ∧
        (t.ssc.chains.get sd).owed = false ∧
        ∀ k x, s.section? sd k = some x →
          t.section? sd k = some { x with snapshots := none, base := none }) ∧
      (∀ sd pos q, s.spindle? sd pos = some q → ∃ q1, t.spindle? sd pos = some q1 ∧
        q1.listed = false ∧ q1.cop = q.cop ∧ q1.attempts = q.attempts ∧
        q1.state = (match q.state with
          | .blocked => .blocked
          | .rovingOut => .rovingOut
          | .sensorFault => .sensorFault
          | _ => .unknown)) ∧
      (∀ sd, (t.bdp.get sd).entries = [] ∧ (t.bdp.get sd).wake = none ∧
        (t.clc.get sd).job = none ∧ (t.clc.get sd).record = none ∧
        (t.clc.get sd).tierDemand = false ∧
        ((s.clc.get sd).state ≠ .disconnected → (t.clc.get sd).state = .connecting)) ∧
      t.bcu = { s.bcu with doff := none, train := none, hold := none } ∧
      t.flc.link = .join ∧ t.flc.queue = [] ∧ t.flc.slot = none ∧ t.flc.peers = [] ∧
      t.flc.health = 0 ∧ t.flc.width = 8 ∧ t.flc.clock = s.flc.clock ∧
      t.dsq = (match s.dsq.phase with
        | .spinning | .prewarn =>
          if (s.conf.doffTargetM - s.conf.doffLeadM) * 1000 ≤ s.dsq.progress then
            { s.dsq with
              phase := .prewarn
              basis := some (s.flc.clock, s.dsq.progress)
              expected := none }
          else { s.dsq with phase := .spinning, basis := none, expected := none }
        | .due | .claiming | .holding => { s.dsq with phase := .due }
        | .doffing =>
          if s.dsq.longDoff = true then s.dsq else { s.dsq with doffTimer := some 900000 }
        | .restarting => { s.dsq with passCount := ⟨0, 0⟩, limitTimer := some 600000 }) ∧
      (∀ i g, s.group? i = some g → t.group? i = some (match g.state with
        | .fed | .low | .stalled => g
        | .claiming | .awaiting => { g with
            state := if g.remaining ≤ s.conf.rovingLowM * 1000 ∨ s.conf.outQuorum ≤ g.out then .low
              else .fed
            train := none
            timer := none }
        | .changing => { g with timer := some (s.conf.creelMaxS * 1000) })) ∧
      t.spt.sensorFaults = s.spt.sensorFaults ∧ t.cmn.counts = s.cmn.counts ∧
      (∀ sd, (t.bdp.get sd).counts = (s.bdp.get sd).counts ∧
        (t.clc.get sd).counts = (s.clc.get sd).counts ∧
        (t.clc.get sd).outcomes = (s.clc.get sd).outcomes ∧
        (t.ssc.chains.get sd).latePasses = (s.ssc.chains.get sd).latePasses ∧
        (t.ssc.chains.get sd).passes = min ((s.ssc.chains.get sd).passes + 1) max32) ∧
      t.flc.counts = { s.flc.counts with
        cleared := min (s.flc.counts.cleared + (if s.flc.slot.isSome then 1 else 0) +
          s.flc.queue.length) max32 } ∧
      t.pcn = s.pcn ∧ t.stu = s.stu ∧ t.atc = s.atc ∧ t.cfg = s.cfg ∧ t.pins = s.pins)

/-- R72, R97, R110, R132, R174, R178, R184, R189: a read request answers OK with the figures of its
block, and the station is as it was but for the port, the model's free-value index and the level of
DOFF_DONE, which stands as READ_STATUS saw it: once seen low it stays low until it rises (R149, R162).
The model's choices in the figures: the bytes of an answer without a layout are free
(notes/assumptions/8.md), and so is the level of DOFF_DONE once it has risen (6.md), times are in whole
seconds rounded down (16.md), and ATTN shows inactive in PULSE mode (30.md). -/
def Obligations.ReadsChangeNothingElse : Prop :=
  ∀ s : State, s.hpt.restarting = false →
    (∃ a f high bytes, bytes.length ≤ 4096 ∧ (s.pins.doffDone = false → high = false) ∧
      exec (.readStatus (framed [])) s = .next (({ s with
        free := f
        pins := { s.pins with doffDone := high } } : State).answered 3 .ok (.status a) bytes) ∧
      a.cause = s.hpt.cause ∧ a.link = s.flc.link ∧ a.clock = s.flc.clock ∧
      a.attnLevel = s.atc.line ∧
      (∀ c, c ∈ a.pendingClasses ↔ (s.atc.classes.get c).pending = true) ∧
      (s.configured = false → a.figures = none) ∧
      (s.configured = true →
        a.figures = some { statusFigures s high with
          discarded := if s.hpt.current.isSome then min (s.hpt.discarded + 1) max32
            else s.hpt.discarded })) ∧
    (s.configured = true →
      (∀ sd, (∃ f bytes, bytes.length ≤ 4096 ∧ exec (.readBreaks (framed [Side.byte sd])) s =
          .next (({ s with free := f } : State).answered 0x0A .ok
            (.breaks (breaksAnswer s sd)) bytes)) ∧
        (∃ f bytes, bytes.length ≤ 4096 ∧ exec (.readCarriage (framed [Side.byte sd])) s =
          .next (({ s with free := f } : State).answered 0x0B .ok
            (.carriage (s.clc.get sd).report) bytes))) ∧
      (∃ f bytes, bytes.length ≤ 4096 ∧ exec (.readPeers (framed [])) s =
        .next (({ s with free := f } : State).answered 0x13 .ok (.peers (peersAnswer s)) bytes)) ∧
      (∃ f bytes, bytes.length ≤ 4096 ∧ exec (.readAttention (framed [])) s =
        .next (({ s with free := f } : State).answered 0x14 .ok
          (.attention
            { classes := s.atc.classes, mode := s.atc.mode, level := s.atc.line }) bytes)) ∧
      (∀ first count : Byte, 1 ≤ first.toNat → 1 ≤ count.toNat →
        first.toNat + count.toNat ≤ 2 * s.sections + 1 →
        ∃ f bytes groups, bytes.length ≤ 4096 ∧ exec (.readCreel (framed [first, count])) s =
          .next (({ s with free := f } : State).answered 0x0F .ok
            (.creel groups s.cmn.counts (biddingGroup s.cmn.groups)) bytes) ∧
          (∀ i, i < count.toNat → groups[i]? =
            (s.group? (first.toNat + i)).map (groupLine (first.toNat + i)))) ∧
      (∀ (k : Byte) (r : ClosedRecord), k.toNat ≤ 3 → s.stu.records[k.toNat]? = some r →
        exec (.readShift (framed [k])) s =
          .next (s.answered 5 .ok (.shiftRecord r.readBytes) r.readBytes) ∧
        r.readBytes.length = 100 ∧
        ∃ f bytes, bytes.length ≤ 4096 ∧ exec (.readTally (framed [k])) s =
          .next (({ s with free := f } : State).answered 6 .ok
            (.tally { shift := r.shift, tally := r.tally }) bytes)))

/-- R18, R20, R55, R97: READ_DELTA and READ_PROBE return their figures and clear them, PROBE_START places
the probe and empties its capture, and CLEAR_OUTCOMES empties a side's outcome set. -/
def Obligations.ReadsThatClear : Prop :=
  ∀ s : State, s.serving →
    (∃ f bytes, bytes.length ≤ 4096 ∧ exec (.readDelta (framed [])) s = .next (({ s with
        free := f
        pcn := { s.pcn with delta := Delta.zero } } : State).answered 4 .ok
          (.delta s.pcn.delta) bytes)) ∧
    (∃ f bytes, bytes.length ≤ 4096 ∧ exec (.readProbe (framed [])) s = .next (({ s with
        free := f
        ssc := { s.ssc with capture := none } } : State).answered 0x18 .ok
          (.probe s.ssc.capture) bytes)) ∧
    (∀ n : Nat, 1 ≤ n → n ≤ 2 * s.n → n < 65536 →
      exec (.probeStart (framed (beBytes 2 n))) s = .next (({ s with
        ssc := { s.ssc with probeIndex := some n, capture := none } } : State).answered 0x17 .ok
          .empty [])) ∧
    (∀ sd, exec (.clearOutcomes (framed [Side.byte sd])) s =
      .next ((s.setCar sd { s.clc.get sd with outcomes := [] }).answered 0x0C .ok .empty []))

/-- R40, R41: a FIND examines the frame's spindles in its direction, wrapping, from the start spindle, and
stops at the first that meets the condition or when its count is used up. -/
def Obligations.FindStopsAtTheFirstMatch : Prop :=
  (∀ (s : State) (p : List Byte) (a : FindArgs), s.serving → p.length = 14 →
    parseFind s.n p = some a →
    ∃ f bytes, bytes.length ≤ 4096 ∧ exec (.find (framed p)) s =
      .next (({ s with free := f } : State).answered 9 .ok (.find (findResult s a)) bytes)) ∧
  (∀ (s : State) (a : FindArgs) (r : FindResult), 1 ≤ a.start → a.start ≤ 2 * s.n → 1 ≤ a.count →
    r = findResult s a →
    let at_ := fun i => (nextPlace (2 * s.n) a.dir)^[i] (a.start - 1)
    let meets := fun i => (s.record (at_ i + 1)).any a.meets
    1 ≤ r.examined ∧ r.examined ≤ a.count ∧ r.spindle = at_ (r.examined - 1) + 1 ∧
    (∀ i, i + 1 < r.examined → meets i = false) ∧
    meets (r.examined - 1) = r.found ∧
    (r.found = false → r.examined = a.count))

/-- R185: COPY_SPINDLES starts a copy, or answers BUSY while one is active; COPY_NEXT answers the
next min(32, left) records and advances or ends the copy, and answers STATE while it is idle. The
widths of a chunk's three fields are the model's reading (notes/assumptions/25.md). -/
def Obligations.CopiesRunInChunks : Prop :=
  ∀ s : State, s.serving →
    (∀ first count : Nat, 1 ≤ first → first ≤ 2 * s.n → 1 ≤ count → count ≤ 2 * s.n →
      2 * s.n < 65536 →
      (s.hpt.copy = none →
        exec (.copySpindles (framed (beBytes 2 first ++ beBytes 2 count))) s =
          .next (({ s with hpt := { s.hpt with
            copy := some { next := first, left := count } } } : State).answered 7 .ok .empty [])) ∧
      (s.hpt.copy.isSome = true →
        exec (.copySpindles (framed (beBytes 2 first ++ beBytes 2 count))) s =
          .next (s.answered 7 .busy .empty []))) ∧
    (s.hpt.copy = none →
      exec (.copyNext (framed [])) s = .next (s.answered 8 .state .empty [])) ∧
    (∀ c k, s.hpt.copy = some c → k = min 32 c.left →
      ∃ records,
        exec (.copyNext (framed [])) s = .next (({ s with hpt := { s.hpt with
          copy := if c.left ≤ 32 then none
            else some { next := (c.next - 1 + 32) % (2 * s.n) + 1, left := c.left - 32 } } } :
              State).answered 8 .ok (.chunk c.next k (c.left ≤ 32) records)
                (beBytes 2 c.next ++ beBytes 1 k ++ [if c.left ≤ 32 then 1 else 0] ++
                  records)) ∧
        (∀ i r, i < k → TablesFit s → s.record ((c.next - 1 + i) % (2 * s.n) + 1) = some r →
          (records.drop (19 * i)).take 19 =
            r.copyBytes ((c.next - 1 + i) % (2 * s.n) + 1)))

/-- R77, R82, R84 to R86, R88, R89, R98: CARRIAGE_CONNECT takes a fitted side from DISCONNECTED or LOST to
CONNECTING and answers STATE otherwise. The answer that takes the CONNECT completes the connection with its
absolute position: the context becomes PARKED, PARKING or READY by the answer's status and the park
demands, any status but PARKED counting as IDLE; the answer that takes a warm restart's PARK issues
CONNECT. CARRIAGE_RELEASE takes any other side than a DISCONNECTED one to DISCONNECTED with RELEASE
outstanding, its job or its resume record ending ABORTED. A READY context whose drive is on and that holds
a job or a record is left out (notes/assumptions/33.md). That bytes after the 11th are discarded is the
model's reading (notes/assumptions/11.md), and so is that the examination follows (13.md). -/
def Obligations.CarriagesConnectAndRelease : Prop :=
  (∀ (s : State) (sd : Side), s.serving →
    ((s.clc.get sd).state = .disconnected → fitted s.conf sd = true →
      exec (.carriageConnect (framed [Side.byte sd])) s = .next ((s.setCar sd
        { s.clc.get sd with
          state := .connecting
          lastReport := none
          lastOrder := (s.clc.get sd).lastOrder + 1
          outstanding := some { kind := .connect, number := (s.clc.get sd).lastOrder + 1 }
          silenceTimer := some 1000
          exchangeTimer := some 100 }).answered 0x0D .ok .empty [])) ∧
    ((s.clc.get sd).state = .lost → fitted s.conf sd = true →
      exec (.carriageConnect (framed [Side.byte sd])) s = .next ((s.setCar sd
        { s.clc.get sd with
          state := .connecting
          lastReport := none
          lastOrder := (s.clc.get sd).lastOrder + 1
          outstanding := some { kind := .connect, number := (s.clc.get sd).lastOrder + 1 }
          silenceTimer := some 1000 }).answered 0x0D .ok .empty [])) ∧
    (((s.clc.get sd).state ≠ .disconnected ∧ (s.clc.get sd).state ≠ .lost) ∨
        fitted s.conf sd = false →
      exec (.carriageConnect (framed [Side.byte sd])) s =
        .next (s.answered 0x0D .state .empty [])) ∧
    ((s.clc.get sd).state = .disconnected →
      exec (.carriageRelease (framed [Side.byte sd])) s =
        .next (s.answered 0x0E .state .empty [])) ∧
    ((s.clc.get sd).state ≠ .disconnected → (s.clc.get sd).job = none →
      (s.clc.get sd).record = none →
      exec (.carriageRelease (framed [Side.byte sd])) s = .next ((s.setCar sd
        { s.clc.get sd with
          state := .disconnected
          held := none
          stage := 0
          lastOrder := (s.clc.get sd).lastOrder + 1
          outstanding := some { kind := .release, number := (s.clc.get sd).lastOrder + 1 }
          silenceTimer := some 1000 }).answered 0x0E .ok .empty [])) ∧
    (∀ pos r, (s.clc.get sd).state ≠ .disconnected →
      (s.clc.get sd).state ≠ .ready ∨ s.pins.driveRun = false →
      ((∃ j, (s.clc.get sd).job = some j ∧ j.position = pos ∧ (s.clc.get sd).record = none) ∨
        (∃ k, (s.clc.get sd).record = some k ∧ k.position = pos ∧ (s.clc.get sd).job = none)) →
      s.spindle? sd pos = some r → r.state = .servicing →
      ∃ t, exec (.carriageRelease (framed [Side.byte sd])) s = .next t ∧
        t.clc.get sd =
          { ((s.clc.get sd).withOutcome .aborted pos s.flc.clock).ordered .release with
            job := none
            jobTimer := if (s.clc.get sd).job.isSome then none else (s.clc.get sd).jobTimer
            record := none
            state := .disconnected
            held := none
            stage := 0
            silenceTimer := some 1000 } ∧
        Relisted s t sd pos r ∧ t.hpt = (s.answered 0x0E .ok .empty []).hpt)) ∧
  (∀ (s : State) (sd : Side) (sent bytes : List Byte) (a : CarAnswer) (n : Byte) (c : Carriage),
    (s.clc.get sd).exchange = some sent → parseCarAnswer (bytes.take 11) = some a →
    (s.clc.get sd).state = .connecting → n = a.taken →
    ((s.clc.get sd).outstanding = some { kind := .connect, number := n } →
      c = { s.clc.get sd with
        exchange := none
        answerTimer := none
        outstanding := none
        silenceTimer := if a.sound = true then some 1000 else (s.clc.get sd).silenceTimer
        position := min a.place (s.n - 1)
        lastReport := a.report.map DoneReport.number } →
      (a.status = .parked →
        exec (.carriageAnswer sd bytes) s = .next (s.setCar sd c.nowParked)) ∧
      (a.status ≠ .parked → c.doffDemand = true ∨ c.tierDemand = true →
        exec (.carriageAnswer sd bytes) s =
          .next (s.setCar sd { c.ordered .park with state := .parking })) ∧
      (a.status ≠ .parked → c.doffDemand = false → c.tierDemand = false →
        exec (.carriageAnswer sd bytes) s =
          .next (examine sd (s.setCar sd { c with state := .ready })) ∧
        (s.pins.driveRun = false →
          exec (.carriageAnswer sd bytes) s =
            .next (s.setCar sd { c with state := .ready })))) ∧
    ((s.clc.get sd).outstanding = some { kind := .park, number := n } → a.sound = true →
      exec (.carriageAnswer sd bytes) s = .next (s.setCar sd
        ({ s.clc.get sd with
          exchange := none, answerTimer := none, silenceTimer := some 1000 }.ordered .connect))))

/-- R108, R109: CREEL_DONE renews the group: it is FED with a full estimate, no train and no timer, its
out count falls by its ROVING_OUT spindles, which are given back, and the change is counted. -/
def Obligations.CreelDoneRenewsTheGroup : Prop :=
  ∀ (s : State) (index : Byte) (g : Group), s.serving → 1 ≤ index.toNat →
    index.toNat ≤ 2 * s.sections → s.group? index.toNat = some g →
    ListAgrees s (groupPlace s.n index.toNat).1 →
    ∃ t, exec (.creelDone (framed [index])) s = .next t ∧
      t.hpt = (s.answered 0x10 .ok .empty []).hpt ∧
      t.group? index.toNat = some
        { state := .fed
          remaining := s.conf.rovingLenM * 1000
          carry := 0
          out := g.out - countState
            (s.sectionSpindles (groupPlace s.n index.toNat).1 (groupPlace s.n index.toNat).2)
            .rovingOut
          train := none
          timer := none } ∧
      (∀ i, i ≠ index.toNat → t.group? i = s.group? i) ∧
      (∀ pos r, sectionOf pos = (groupPlace s.n index.toNat).2 →
        s.spindle? (groupPlace s.n index.toNat).1 pos = some r → r.state = .rovingOut →
        ∃ r1, t.spindle? (groupPlace s.n index.toNat).1 pos = some r1 ∧ r1.attempts = 0 ∧
          (r1.state = .broken ∨ r1.state = .servicing)) ∧
      t.pcn.acc = { s.pcn.acc with
        creelChanges := min (s.pcn.acc.creelChanges + 1) max32 } ∧
      t.pcn.delta = s.pcn.delta ∧
      t.cmn.counts.renewals = min (s.cmn.counts.renewals + 1) max32 ∧
      t.cfg = s.cfg ∧ t.ssc = s.ssc ∧ t.flc = s.flc ∧ t.dsq = s.dsq ∧ t.stu = s.stu

/-- R29, R36, R60, R61, R71, R87: TENTER_CLEAR of a BLOCKED spindle makes it BROKEN with no attempts and
lists it at the floor clock; on an eligible side with no other entry it is dispatched in the same event.
A spindle that is not BLOCKED answers STATE. -/
def Obligations.TenterClearListsTheSpindle : Prop :=
  ∀ (s : State) (sd : Side) (pos : Nat) (r : Spindle), s.serving → pos < s.n →
    2 * s.n < 65536 → s.spindle? sd pos = some r →
    (r.state ≠ .blocked →
      exec (.tenterClear (framed (beBytes 2 (spindleNumber s.n sd pos)))) s =
        .next (s.answered 0x11 .state .empty [])) ∧
    (r.state = .blocked → (s.bdp.get sd).entries = [] → ∃ t,
      exec (.tenterClear (framed (beBytes 2 (spindleNumber s.n sd pos)))) s = .next t ∧
      t.hpt = (s.answered 0x11 .ok .empty []).hpt ∧
      (s.pins.driveRun = false →
        t.spindle? sd pos =
          some { r with state := .broken, listed := true, attempts := 0, verify := 0 } ∧
        (t.bdp.get sd).entries =
          [{ position := pos, arrival := s.flc.clock, notBefore := none }] ∧
        (∀ q, q ≠ pos → t.spindle? sd q = s.spindle? sd q) ∧
        t.clc = s.clc) ∧
      (eligibility s sd = .eligible → heldByCreel s sd pos = false → s.unlisted sd = 0 →
        1 ≤ s.conf.starveS →
        t.spindle? sd pos =
          some { r with state := .servicing, listed := false, attempts := 0, verify := 0 } ∧
        (∀ q, q ≠ pos → t.spindle? sd q = s.spindle? sd q) ∧
        (t.bdp.get sd).entries = [] ∧
        (t.bdp.get sd).counts.dispatches =
          min ((s.bdp.get sd).counts.dispatches + 1) max32 ∧
        (t.clc.get sd).state = .dispatched ∧
        (t.clc.get sd).job = some
          { spindle := spindleNumber s.n sd pos, position := pos, attempt := 1
            stamp := s.flc.clock, seen := none } ∧
        (t.clc.get sd).outstanding = some
          { kind := .goPiece pos 1, number := (s.clc.get sd).lastOrder + 1 } ∧
        (t.clc.get sd).jobTimer = some (s.conf.pieceMaxS * 1000)))

/-- R26 to R31, R34, R35, R61, R63, R68, R92, R101, R102: the judgement of a spindle. A low-quality run of
QUAL_PASSES puts it into SENSOR_FAULT, counted and with a SENSOR event: its entry leaves the list, its job
or its resume record is aborted, its group's out count falls; a good-quality run of QUAL_PASSES takes it
out, UNKNOWN. Else its evidence moves it: from UNKNOWN, RUNNING and SLACK a break count at BREAK_CONFIRM
declares a break, else a slack count at SLACK_CONFIRM makes it SLACK and a good count at RESTORE_PASSES
makes it RUNNING, as its state allows; a BROKEN, BLOCKED or ROVING_OUT spindle with RESTORE_PASSES good
reads runs again; a VERIFYING spindle runs after one good read, and after VERIFY_PASSES others it is a
false success; nothing else changes anything. A declared break and a retry leave the spindle BROKEN, or
SERVICING where the drive is on and the listing's examination has dispatched it; a break that stays
BROKEN is listed exactly when the list had a place. -/
def Obligations.JudgementFollowsTheEvidence : Prop :=
  ∀ (s t : State) (sd : Side) (pos : Nat) (r : Spindle), s.spindle? sd pos = some r →
    t = judgeSpindle sd s pos →
    (r.state = .sensorFault →
      (s.conf.qualPasses ≤ r.goodRun → t = s.modSpindle sd pos (fun x =>
        { x with
          state := .unknown, listed := false, verify := 0
          breakCount := 0, slackCount := 0, goodCount := 0, attempts := 0 })) ∧
      (r.goodRun < s.conf.qualPasses → t = s)) ∧
    (r.state ≠ .sensorFault → s.conf.qualPasses ≤ r.lowRun →
      SensorFaultEntered s t sd pos r) ∧
    (r.lowRun < s.conf.qualPasses →
      (r.state = .unknown ∨ r.state = .running ∨ r.state = .slack →
        s.conf.breakConfirm ≤ r.breakCount →
        t.pcn.acc = { s.pcn.acc with breaks := min (s.pcn.acc.breaks + 1) max32 } ∧
        ∃ st l, t.spindle? sd pos = some { r with state := st, listed := l, verify := 0 } ∧
          (st = .broken ∨ st = .servicing) ∧
          (st = .broken → (l = true ↔ (s.bdp.get sd).entries.length < 64)) ∧
          (st = .servicing → l = false ∧ (s.bdp.get sd).entries.length < 64 ∧
            s.pins.driveRun = true ∧ (t.clc.get sd).state = .dispatched ∧
            (t.clc.get sd).job.map Job.position = some pos)) ∧
      (r.state = .unknown ∨ r.state = .running → r.breakCount < s.conf.breakConfirm →
        s.conf.slackConfirm ≤ r.slackCount →
        t = s.modSpindle sd pos (fun x =>
          { x with state := .slack, listed := false, verify := 0, attempts := 0 })) ∧
      ((r.state = .unknown ∧ r.slackCount < s.conf.slackConfirm) ∨ r.state = .slack →
        r.breakCount < s.conf.breakConfirm → s.conf.restorePasses ≤ r.goodCount →
        t = s.modSpindle sd pos (fun x =>
          { x with state := .running, listed := false, verify := 0, attempts := 0 })) ∧
      (r.state = .broken ∨ r.state = .blocked ∨ r.state = .rovingOut →
        s.conf.restorePasses ≤ r.goodCount → Restored s t sd pos r) ∧
      (r.state = .verifying → 1 ≤ r.goodCount →
        t.spindle? sd pos =
          some { r with state := .running, listed := false, verify := 0, attempts := 0 } ∧
        t.pcn.acc =
          { s.pcn.acc with carriagePieced := min (s.pcn.acc.carriagePieced + 1) max32 }) ∧
      (r.state = .verifying → r.goodCount = 0 → r.verify + 1 < s.conf.verifyPasses →
        t = s.modSpindle sd pos (fun x => { x with verify := x.verify + 1 })) ∧
      (r.state = .verifying → r.goodCount = 0 → s.conf.verifyPasses ≤ r.verify + 1 →
        t.pcn.acc.countedFailures = min (s.pcn.acc.countedFailures + 1) max32 ∧
        t.pcn.acc.falseSuccesses = min (s.pcn.acc.falseSuccesses + 1) max32 ∧
        ∃ r1, t.spindle? sd pos = some r1 ∧ r1.attempts = r.attempts + 1 ∧
          (s.conf.pieceTries ≤ r.attempts + 1 → r1.state = .blocked) ∧
          (r.attempts + 1 < s.conf.pieceTries →
            r1.state = .broken ∨ (r1.state = .servicing ∧ s.pins.driveRun = true))) ∧
      ((r.state = .unknown ∨ r.state = .running ∨ r.state = .slack →
          r.breakCount < s.conf.breakConfirm) →
        (r.state = .unknown ∨ r.state = .running → r.slackCount < s.conf.slackConfirm) →
        (r.state = .unknown ∨ r.state = .slack ∨ r.state = .broken ∨ r.state = .blocked ∨
            r.state = .rovingOut → r.goodCount < s.conf.restorePasses) →
        r.state ≠ .verifying → r.state ≠ .sensorFault → t = s))

/-- R152, R161: FORCE_DOFF in SPINNING or PREWARN makes the doff due now, and with a link that sends
starts the claim; in any other phase it answers STATE. -/
def Obligations.ForceDoffMakesTheDoffDue : Prop :=
  ∀ s : State, s.serving →
    (s.dsq.phase ≠ .spinning → s.dsq.phase ≠ .prewarn →
      exec (.forceDoff (framed [])) s = .next (s.answered 0x12 .state .empty [])) ∧
    (s.dsq.phase = .spinning ∨ s.dsq.phase = .prewarn → s.plainAttention .doff →
      s.dsq.overfull = false →
      ∃ t, exec (.forceDoff (framed [])) s = .next t ∧
        t.hpt = (s.answered 0x12 .ok .empty []).hpt ∧
        t.dsq = { s.dsq with
          phase := if s.flc.link.sends = true then .claiming else .due
          due := some s.flc.clock
          basis := none
          expected := none
          counts := { s.dsq.counts with
            dues := min (s.dsq.counts.dues + 1) max32
            forced := min (s.dsq.counts.forced + 1) max32 } } ∧
        t.atc = (s.noted .doff).atc ∧
        (s.flc.link.sends = true →
          t.bcu = { s.bcu with
            doff := some { urgency := s.flc.clock, left := s.conf.claimWindowMs }
            counts := { s.bcu.counts with
              doffClaims := min (s.bcu.counts.doffClaims + 1) max32 } } ∧
          t.flc = (offer (.doffClaim s.flc.clock) s).flc) ∧
        (s.flc.link.sends = false → t.bcu = s.bcu ∧ t.flc = s.flc) ∧
        t.cfg = s.cfg ∧ t.ssc = s.ssc ∧ t.spt = s.spt ∧ t.pcn = s.pcn ∧ t.bdp = s.bdp ∧
        t.clc = s.clc ∧ t.cmn = s.cmn ∧ t.stu = s.stu)

/-- R187, R189: ACK_ATTENTION clears the classes that its set names, and SET_ATTENTION_ENABLE enables the
classes that it names, FRAME_ALERT always; in LEVEL mode nothing else changes, and in PULSE mode one
pulse is given exactly when a pending class becomes enabled. -/
def Obligations.AttentionIsAcknowledgedAndEnabled : Prop :=
  ∀ (s : State) (set : Nat), s.serving → set < 512 →
    (∃ classes, exec (.ackAttention (framed (beBytes 2 set))) s = .next (({ s with
        atc := { s.atc with classes := classes } } : State).answered 0x15 .ok .empty []) ∧
      ∀ c, classes.get c =
        { pending := (s.atc.classes.get c).pending && !set.testBit c.bit
          count := if set.testBit c.bit then 0 else (s.atc.classes.get c).count
          enabled := (s.atc.classes.get c).enabled }) ∧
    (∃ classes pulses, exec (.setAttentionEnable (framed (beBytes 2 set))) s = .next (({ s with
        atc := { s.atc with classes := classes, pulses := pulses } } : State).answered 0x16 .ok
          .empty []) ∧
      (∀ c, classes.get c =
        { pending := (s.atc.classes.get c).pending
          count := (s.atc.classes.get c).count
          enabled := set.testBit c.bit || c == .frameAlert }) ∧
      (s.atc.mode = .level → pulses = s.atc.pulses) ∧
      (s.atc.mode = .pulse →
        ((∃ c, (s.atc.classes.get c).pending = true ∧ (s.atc.classes.get c).enabled = false ∧
            (classes.get c).enabled = true) → pulses = s.atc.pulses + 1) ∧
        ((∀ c, (s.atc.classes.get c).pending = true → (classes.get c).enabled = true →
            (s.atc.classes.get c).enabled = true) → pulses = s.atc.pulses)))

/-- R177 to R179: a read transaction shows the current answer, its code, status code, payload length and
payload byte by byte and 00h past its end, or zeros when there is none, and consumes it when all 4 + A
bytes are clocked; a transaction of another first byte is only counted, up to the limit that the model
chose (notes/assumptions/35.md); a write without a code byte is
answered RANGE, with an echo the manual does not give (notes/assumptions/9.md). -/
def Obligations.TransactionsOnThePort : Prop :=
  (∀ (s : State) (clocked : Nat), ∃ bytes : List Byte, bytes.length = clocked ∧
    (∀ a, s.hpt.current = some a →
      (∀ i, i < clocked → bytes[i]? = some (([a.code, a.status.code,
        BitVec.ofNat 8 (a.bytes.length / 256), BitVec.ofNat 8 a.bytes.length] ++
          a.bytes).getD i 0)) ∧
      (clocked < 4 + a.bytes.length →
        exec (.hostReadTransaction clocked) s = .next { s with hpt := { s.hpt with
          shown := some { answer := some a, bytes := bytes } } }) ∧
      (4 + a.bytes.length ≤ clocked →
        exec (.hostReadTransaction clocked) s = .next { s with hpt := { s.hpt with
          shown := some { answer := some a, bytes := bytes }
          current := none
          ready := false } })) ∧
    (s.hpt.current = none →
      (∀ b ∈ bytes, b = 0) ∧
      exec (.hostReadTransaction clocked) s = .next { s with hpt := { s.hpt with
        shown := some { answer := none, bytes := bytes } } })) ∧
  [Status.ok, .clamped, .busy, .state, .range, .unknownRequest, .already,
    .notConfigured].map Status.code = [0, 1, 2, 3, 4, 5, 6, 7] ∧
  (∀ (s : State) (first : Byte), first ≠ 1 → first ≠ 2 →
    exec (.badTransaction first) s = .next { s with hpt := { s.hpt with
      badTransactions := min (s.hpt.badTransactions + 1) max32 } }) ∧
  (∀ s : State, s.hpt.restarting = false →
    ∃ echo, exec (.unknownRequest []) s = .next
      (({ s with free := s.free + 1 } : State).answered echo .range .empty []))
end

