-- ==== Sys2Proof/Laws/Bytes.lean ====
section
/-! SUPPORT. Big-endian figures and framed payloads: what they read back as. -/

namespace Sys2Proof.Machine

@[simp] theorem length_beBytes (n x : Nat) : (beBytes n x).length = n := by
  induction n with
  | zero => rfl
  | succ n ih => simp [beBytes, ih]

theorem foldl_be (bytes : List Byte) (a : Nat) :
    bytes.foldl (fun a b => a * 256 + b.toNat) a = a * 256 ^ bytes.length + beNat bytes := by
  induction bytes generalizing a with
  | nil => simp [beNat]
  | cons b bs ih =>
    simp only [List.foldl_cons, beNat, List.length_cons]
    rw [ih, ih (0 * 256 + b.toNat)]
    simp only [Nat.zero_mul, Nat.zero_add, pow_succ]
    ring

theorem beNat_cons (b : Byte) (bs : List Byte) :
    beNat (b :: bs) = b.toNat * 256 ^ bs.length + beNat bs := by
  have h := foldl_be bs (0 * 256 + b.toNat)
  simpa [beNat] using h

/-- A figure that fits its bytes reads back; a wider one reads back modulo its width. -/
theorem beNat_beBytes (n x : Nat) : beNat (beBytes n x) = x % 256 ^ n := by
  induction n with
  | zero => simp [beBytes, beNat, Nat.mod_one]
  | succ n ih =>
    rw [beBytes, beNat_cons, ih, length_beBytes, BitVec.toNat_ofNat]
    have h := Nat.mod_mul (a := 256 ^ n) (b := 256) (x := x)
    have e : (2 : Nat) ^ 8 = 256 := rfl
    rw [pow_succ 256 n, h, e, Nat.mul_comm, Nat.add_comm]

/-- A framed payload passes the form test of R178. -/
theorem payloadOf_framed (p : List Byte) (h : p.length ≤ 256) : payloadOf (framed p) = some p := by
  have e : beNat (beBytes 2 p.length) = p.length := by
    rw [beNat_beBytes]; omega
  simp only [beBytes] at e
  simp only [framed, beBytes, List.cons_append, List.nil_append, payloadOf]
  rw [if_pos ⟨e.symm, h⟩]

@[simp] theorem sideOf_byte (sd : Side) : sideOf [Side.byte sd] = some sd := by cases sd <;> rfl

end Sys2Proof.Machine
end

