-- ==== Sys2Proof/Laws/State.lean ====
section
/-! SUPPORT. Each field of the state after each update of one block, of one side and of one record: true
by rfl, so that no proof unfolds a record update. -/

namespace Sys2Proof.Machine

variable (s : State)

@[simp] theorem State.setCfg_cfg (x : Option Config.Cfg) : (s.setCfg x).cfg = x := rfl
@[simp] theorem State.setCfg_ssc (x : Option Config.Cfg) : (s.setCfg x).ssc = s.ssc := rfl
@[simp] theorem State.setCfg_spt (x : Option Config.Cfg) : (s.setCfg x).spt = s.spt := rfl
@[simp] theorem State.setCfg_pcn (x : Option Config.Cfg) : (s.setCfg x).pcn = s.pcn := rfl
@[simp] theorem State.setCfg_bdp (x : Option Config.Cfg) : (s.setCfg x).bdp = s.bdp := rfl
@[simp] theorem State.setCfg_clc (x : Option Config.Cfg) : (s.setCfg x).clc = s.clc := rfl
@[simp] theorem State.setCfg_cmn (x : Option Config.Cfg) : (s.setCfg x).cmn = s.cmn := rfl
@[simp] theorem State.setCfg_flc (x : Option Config.Cfg) : (s.setCfg x).flc = s.flc := rfl
@[simp] theorem State.setCfg_bcu (x : Option Config.Cfg) : (s.setCfg x).bcu = s.bcu := rfl
@[simp] theorem State.setCfg_dsq (x : Option Config.Cfg) : (s.setCfg x).dsq = s.dsq := rfl
@[simp] theorem State.setCfg_stu (x : Option Config.Cfg) : (s.setCfg x).stu = s.stu := rfl
@[simp] theorem State.setCfg_hpt (x : Option Config.Cfg) : (s.setCfg x).hpt = s.hpt := rfl
@[simp] theorem State.setCfg_atc (x : Option Config.Cfg) : (s.setCfg x).atc = s.atc := rfl
@[simp] theorem State.setCfg_pins (x : Option Config.Cfg) : (s.setCfg x).pins = s.pins := rfl
@[simp] theorem State.setCfg_free (x : Option Config.Cfg) : (s.setCfg x).free = s.free := rfl
@[simp] theorem State.setCfg_pending (x : Option Config.Cfg) : (s.setCfg x).pending = s.pending := rfl

@[simp] theorem State.setSsc_cfg (x : Ssc) : (s.setSsc x).cfg = s.cfg := rfl
@[simp] theorem State.setSsc_ssc (x : Ssc) : (s.setSsc x).ssc = x := rfl
@[simp] theorem State.setSsc_spt (x : Ssc) : (s.setSsc x).spt = s.spt := rfl
@[simp] theorem State.setSsc_pcn (x : Ssc) : (s.setSsc x).pcn = s.pcn := rfl
@[simp] theorem State.setSsc_bdp (x : Ssc) : (s.setSsc x).bdp = s.bdp := rfl
@[simp] theorem State.setSsc_clc (x : Ssc) : (s.setSsc x).clc = s.clc := rfl
@[simp] theorem State.setSsc_cmn (x : Ssc) : (s.setSsc x).cmn = s.cmn := rfl
@[simp] theorem State.setSsc_flc (x : Ssc) : (s.setSsc x).flc = s.flc := rfl
@[simp] theorem State.setSsc_bcu (x : Ssc) : (s.setSsc x).bcu = s.bcu := rfl
@[simp] theorem State.setSsc_dsq (x : Ssc) : (s.setSsc x).dsq = s.dsq := rfl
@[simp] theorem State.setSsc_stu (x : Ssc) : (s.setSsc x).stu = s.stu := rfl
@[simp] theorem State.setSsc_hpt (x : Ssc) : (s.setSsc x).hpt = s.hpt := rfl
@[simp] theorem State.setSsc_atc (x : Ssc) : (s.setSsc x).atc = s.atc := rfl
@[simp] theorem State.setSsc_pins (x : Ssc) : (s.setSsc x).pins = s.pins := rfl
@[simp] theorem State.setSsc_free (x : Ssc) : (s.setSsc x).free = s.free := rfl
@[simp] theorem State.setSsc_pending (x : Ssc) : (s.setSsc x).pending = s.pending := rfl

@[simp] theorem State.setSpt_cfg (x : Spt) : (s.setSpt x).cfg = s.cfg := rfl
@[simp] theorem State.setSpt_ssc (x : Spt) : (s.setSpt x).ssc = s.ssc := rfl
@[simp] theorem State.setSpt_spt (x : Spt) : (s.setSpt x).spt = x := rfl
@[simp] theorem State.setSpt_pcn (x : Spt) : (s.setSpt x).pcn = s.pcn := rfl
@[simp] theorem State.setSpt_bdp (x : Spt) : (s.setSpt x).bdp = s.bdp := rfl
@[simp] theorem State.setSpt_clc (x : Spt) : (s.setSpt x).clc = s.clc := rfl
@[simp] theorem State.setSpt_cmn (x : Spt) : (s.setSpt x).cmn = s.cmn := rfl
@[simp] theorem State.setSpt_flc (x : Spt) : (s.setSpt x).flc = s.flc := rfl
@[simp] theorem State.setSpt_bcu (x : Spt) : (s.setSpt x).bcu = s.bcu := rfl
@[simp] theorem State.setSpt_dsq (x : Spt) : (s.setSpt x).dsq = s.dsq := rfl
@[simp] theorem State.setSpt_stu (x : Spt) : (s.setSpt x).stu = s.stu := rfl
@[simp] theorem State.setSpt_hpt (x : Spt) : (s.setSpt x).hpt = s.hpt := rfl
@[simp] theorem State.setSpt_atc (x : Spt) : (s.setSpt x).atc = s.atc := rfl
@[simp] theorem State.setSpt_pins (x : Spt) : (s.setSpt x).pins = s.pins := rfl
@[simp] theorem State.setSpt_free (x : Spt) : (s.setSpt x).free = s.free := rfl
@[simp] theorem State.setSpt_pending (x : Spt) : (s.setSpt x).pending = s.pending := rfl

@[simp] theorem State.setPcn_cfg (x : Pcn) : (s.setPcn x).cfg = s.cfg := rfl
@[simp] theorem State.setPcn_ssc (x : Pcn) : (s.setPcn x).ssc = s.ssc := rfl
@[simp] theorem State.setPcn_spt (x : Pcn) : (s.setPcn x).spt = s.spt := rfl
@[simp] theorem State.setPcn_pcn (x : Pcn) : (s.setPcn x).pcn = x := rfl
@[simp] theorem State.setPcn_bdp (x : Pcn) : (s.setPcn x).bdp = s.bdp := rfl
@[simp] theorem State.setPcn_clc (x : Pcn) : (s.setPcn x).clc = s.clc := rfl
@[simp] theorem State.setPcn_cmn (x : Pcn) : (s.setPcn x).cmn = s.cmn := rfl
@[simp] theorem State.setPcn_flc (x : Pcn) : (s.setPcn x).flc = s.flc := rfl
@[simp] theorem State.setPcn_bcu (x : Pcn) : (s.setPcn x).bcu = s.bcu := rfl
@[simp] theorem State.setPcn_dsq (x : Pcn) : (s.setPcn x).dsq = s.dsq := rfl
@[simp] theorem State.setPcn_stu (x : Pcn) : (s.setPcn x).stu = s.stu := rfl
@[simp] theorem State.setPcn_hpt (x : Pcn) : (s.setPcn x).hpt = s.hpt := rfl
@[simp] theorem State.setPcn_atc (x : Pcn) : (s.setPcn x).atc = s.atc := rfl
@[simp] theorem State.setPcn_pins (x : Pcn) : (s.setPcn x).pins = s.pins := rfl
@[simp] theorem State.setPcn_free (x : Pcn) : (s.setPcn x).free = s.free := rfl
@[simp] theorem State.setPcn_pending (x : Pcn) : (s.setPcn x).pending = s.pending := rfl

@[simp] theorem State.setBdp_cfg (x : Sides Breaks) : (s.setBdp x).cfg = s.cfg := rfl
@[simp] theorem State.setBdp_ssc (x : Sides Breaks) : (s.setBdp x).ssc = s.ssc := rfl
@[simp] theorem State.setBdp_spt (x : Sides Breaks) : (s.setBdp x).spt = s.spt := rfl
@[simp] theorem State.setBdp_pcn (x : Sides Breaks) : (s.setBdp x).pcn = s.pcn := rfl
@[simp] theorem State.setBdp_bdp (x : Sides Breaks) : (s.setBdp x).bdp = x := rfl
@[simp] theorem State.setBdp_clc (x : Sides Breaks) : (s.setBdp x).clc = s.clc := rfl
@[simp] theorem State.setBdp_cmn (x : Sides Breaks) : (s.setBdp x).cmn = s.cmn := rfl
@[simp] theorem State.setBdp_flc (x : Sides Breaks) : (s.setBdp x).flc = s.flc := rfl
@[simp] theorem State.setBdp_bcu (x : Sides Breaks) : (s.setBdp x).bcu = s.bcu := rfl
@[simp] theorem State.setBdp_dsq (x : Sides Breaks) : (s.setBdp x).dsq = s.dsq := rfl
@[simp] theorem State.setBdp_stu (x : Sides Breaks) : (s.setBdp x).stu = s.stu := rfl
@[simp] theorem State.setBdp_hpt (x : Sides Breaks) : (s.setBdp x).hpt = s.hpt := rfl
@[simp] theorem State.setBdp_atc (x : Sides Breaks) : (s.setBdp x).atc = s.atc := rfl
@[simp] theorem State.setBdp_pins (x : Sides Breaks) : (s.setBdp x).pins = s.pins := rfl
@[simp] theorem State.setBdp_free (x : Sides Breaks) : (s.setBdp x).free = s.free := rfl
@[simp] theorem State.setBdp_pending (x : Sides Breaks) : (s.setBdp x).pending = s.pending := rfl

@[simp] theorem State.setClc_cfg (x : Sides Carriage) : (s.setClc x).cfg = s.cfg := rfl
@[simp] theorem State.setClc_ssc (x : Sides Carriage) : (s.setClc x).ssc = s.ssc := rfl
@[simp] theorem State.setClc_spt (x : Sides Carriage) : (s.setClc x).spt = s.spt := rfl
@[simp] theorem State.setClc_pcn (x : Sides Carriage) : (s.setClc x).pcn = s.pcn := rfl
@[simp] theorem State.setClc_bdp (x : Sides Carriage) : (s.setClc x).bdp = s.bdp := rfl
@[simp] theorem State.setClc_clc (x : Sides Carriage) : (s.setClc x).clc = x := rfl
@[simp] theorem State.setClc_cmn (x : Sides Carriage) : (s.setClc x).cmn = s.cmn := rfl
@[simp] theorem State.setClc_flc (x : Sides Carriage) : (s.setClc x).flc = s.flc := rfl
@[simp] theorem State.setClc_bcu (x : Sides Carriage) : (s.setClc x).bcu = s.bcu := rfl
@[simp] theorem State.setClc_dsq (x : Sides Carriage) : (s.setClc x).dsq = s.dsq := rfl
@[simp] theorem State.setClc_stu (x : Sides Carriage) : (s.setClc x).stu = s.stu := rfl
@[simp] theorem State.setClc_hpt (x : Sides Carriage) : (s.setClc x).hpt = s.hpt := rfl
@[simp] theorem State.setClc_atc (x : Sides Carriage) : (s.setClc x).atc = s.atc := rfl
@[simp] theorem State.setClc_pins (x : Sides Carriage) : (s.setClc x).pins = s.pins := rfl
@[simp] theorem State.setClc_free (x : Sides Carriage) : (s.setClc x).free = s.free := rfl
@[simp] theorem State.setClc_pending (x : Sides Carriage) : (s.setClc x).pending = s.pending := rfl

@[simp] theorem State.setCmn_cfg (x : Cmn) : (s.setCmn x).cfg = s.cfg := rfl
@[simp] theorem State.setCmn_ssc (x : Cmn) : (s.setCmn x).ssc = s.ssc := rfl
@[simp] theorem State.setCmn_spt (x : Cmn) : (s.setCmn x).spt = s.spt := rfl
@[simp] theorem State.setCmn_pcn (x : Cmn) : (s.setCmn x).pcn = s.pcn := rfl
@[simp] theorem State.setCmn_bdp (x : Cmn) : (s.setCmn x).bdp = s.bdp := rfl
@[simp] theorem State.setCmn_clc (x : Cmn) : (s.setCmn x).clc = s.clc := rfl
@[simp] theorem State.setCmn_cmn (x : Cmn) : (s.setCmn x).cmn = x := rfl
@[simp] theorem State.setCmn_flc (x : Cmn) : (s.setCmn x).flc = s.flc := rfl
@[simp] theorem State.setCmn_bcu (x : Cmn) : (s.setCmn x).bcu = s.bcu := rfl
@[simp] theorem State.setCmn_dsq (x : Cmn) : (s.setCmn x).dsq = s.dsq := rfl
@[simp] theorem State.setCmn_stu (x : Cmn) : (s.setCmn x).stu = s.stu := rfl
@[simp] theorem State.setCmn_hpt (x : Cmn) : (s.setCmn x).hpt = s.hpt := rfl
@[simp] theorem State.setCmn_atc (x : Cmn) : (s.setCmn x).atc = s.atc := rfl
@[simp] theorem State.setCmn_pins (x : Cmn) : (s.setCmn x).pins = s.pins := rfl
@[simp] theorem State.setCmn_free (x : Cmn) : (s.setCmn x).free = s.free := rfl
@[simp] theorem State.setCmn_pending (x : Cmn) : (s.setCmn x).pending = s.pending := rfl

@[simp] theorem State.setFlc_cfg (x : Flc) : (s.setFlc x).cfg = s.cfg := rfl
@[simp] theorem State.setFlc_ssc (x : Flc) : (s.setFlc x).ssc = s.ssc := rfl
@[simp] theorem State.setFlc_spt (x : Flc) : (s.setFlc x).spt = s.spt := rfl
@[simp] theorem State.setFlc_pcn (x : Flc) : (s.setFlc x).pcn = s.pcn := rfl
@[simp] theorem State.setFlc_bdp (x : Flc) : (s.setFlc x).bdp = s.bdp := rfl
@[simp] theorem State.setFlc_clc (x : Flc) : (s.setFlc x).clc = s.clc := rfl
@[simp] theorem State.setFlc_cmn (x : Flc) : (s.setFlc x).cmn = s.cmn := rfl
@[simp] theorem State.setFlc_flc (x : Flc) : (s.setFlc x).flc = x := rfl
@[simp] theorem State.setFlc_bcu (x : Flc) : (s.setFlc x).bcu = s.bcu := rfl
@[simp] theorem State.setFlc_dsq (x : Flc) : (s.setFlc x).dsq = s.dsq := rfl
@[simp] theorem State.setFlc_stu (x : Flc) : (s.setFlc x).stu = s.stu := rfl
@[simp] theorem State.setFlc_hpt (x : Flc) : (s.setFlc x).hpt = s.hpt := rfl
@[simp] theorem State.setFlc_atc (x : Flc) : (s.setFlc x).atc = s.atc := rfl
@[simp] theorem State.setFlc_pins (x : Flc) : (s.setFlc x).pins = s.pins := rfl
@[simp] theorem State.setFlc_free (x : Flc) : (s.setFlc x).free = s.free := rfl
@[simp] theorem State.setFlc_pending (x : Flc) : (s.setFlc x).pending = s.pending := rfl

@[simp] theorem State.setBcu_cfg (x : Bcu) : (s.setBcu x).cfg = s.cfg := rfl
@[simp] theorem State.setBcu_ssc (x : Bcu) : (s.setBcu x).ssc = s.ssc := rfl
@[simp] theorem State.setBcu_spt (x : Bcu) : (s.setBcu x).spt = s.spt := rfl
@[simp] theorem State.setBcu_pcn (x : Bcu) : (s.setBcu x).pcn = s.pcn := rfl
@[simp] theorem State.setBcu_bdp (x : Bcu) : (s.setBcu x).bdp = s.bdp := rfl
@[simp] theorem State.setBcu_clc (x : Bcu) : (s.setBcu x).clc = s.clc := rfl
@[simp] theorem State.setBcu_cmn (x : Bcu) : (s.setBcu x).cmn = s.cmn := rfl
@[simp] theorem State.setBcu_flc (x : Bcu) : (s.setBcu x).flc = s.flc := rfl
@[simp] theorem State.setBcu_bcu (x : Bcu) : (s.setBcu x).bcu = x := rfl
@[simp] theorem State.setBcu_dsq (x : Bcu) : (s.setBcu x).dsq = s.dsq := rfl
@[simp] theorem State.setBcu_stu (x : Bcu) : (s.setBcu x).stu = s.stu := rfl
@[simp] theorem State.setBcu_hpt (x : Bcu) : (s.setBcu x).hpt = s.hpt := rfl
@[simp] theorem State.setBcu_atc (x : Bcu) : (s.setBcu x).atc = s.atc := rfl
@[simp] theorem State.setBcu_pins (x : Bcu) : (s.setBcu x).pins = s.pins := rfl
@[simp] theorem State.setBcu_free (x : Bcu) : (s.setBcu x).free = s.free := rfl
@[simp] theorem State.setBcu_pending (x : Bcu) : (s.setBcu x).pending = s.pending := rfl

@[simp] theorem State.setDsq_cfg (x : Dsq) : (s.setDsq x).cfg = s.cfg := rfl
@[simp] theorem State.setDsq_ssc (x : Dsq) : (s.setDsq x).ssc = s.ssc := rfl
@[simp] theorem State.setDsq_spt (x : Dsq) : (s.setDsq x).spt = s.spt := rfl
@[simp] theorem State.setDsq_pcn (x : Dsq) : (s.setDsq x).pcn = s.pcn := rfl
@[simp] theorem State.setDsq_bdp (x : Dsq) : (s.setDsq x).bdp = s.bdp := rfl
@[simp] theorem State.setDsq_clc (x : Dsq) : (s.setDsq x).clc = s.clc := rfl
@[simp] theorem State.setDsq_cmn (x : Dsq) : (s.setDsq x).cmn = s.cmn := rfl
@[simp] theorem State.setDsq_flc (x : Dsq) : (s.setDsq x).flc = s.flc := rfl
@[simp] theorem State.setDsq_bcu (x : Dsq) : (s.setDsq x).bcu = s.bcu := rfl
@[simp] theorem State.setDsq_dsq (x : Dsq) : (s.setDsq x).dsq = x := rfl
@[simp] theorem State.setDsq_stu (x : Dsq) : (s.setDsq x).stu = s.stu := rfl
@[simp] theorem State.setDsq_hpt (x : Dsq) : (s.setDsq x).hpt = s.hpt := rfl
@[simp] theorem State.setDsq_atc (x : Dsq) : (s.setDsq x).atc = s.atc := rfl
@[simp] theorem State.setDsq_pins (x : Dsq) : (s.setDsq x).pins = s.pins := rfl
@[simp] theorem State.setDsq_free (x : Dsq) : (s.setDsq x).free = s.free := rfl
@[simp] theorem State.setDsq_pending (x : Dsq) : (s.setDsq x).pending = s.pending := rfl

@[simp] theorem State.setStu_cfg (x : Stu) : (s.setStu x).cfg = s.cfg := rfl
@[simp] theorem State.setStu_ssc (x : Stu) : (s.setStu x).ssc = s.ssc := rfl
@[simp] theorem State.setStu_spt (x : Stu) : (s.setStu x).spt = s.spt := rfl
@[simp] theorem State.setStu_pcn (x : Stu) : (s.setStu x).pcn = s.pcn := rfl
@[simp] theorem State.setStu_bdp (x : Stu) : (s.setStu x).bdp = s.bdp := rfl
@[simp] theorem State.setStu_clc (x : Stu) : (s.setStu x).clc = s.clc := rfl
@[simp] theorem State.setStu_cmn (x : Stu) : (s.setStu x).cmn = s.cmn := rfl
@[simp] theorem State.setStu_flc (x : Stu) : (s.setStu x).flc = s.flc := rfl
@[simp] theorem State.setStu_bcu (x : Stu) : (s.setStu x).bcu = s.bcu := rfl
@[simp] theorem State.setStu_dsq (x : Stu) : (s.setStu x).dsq = s.dsq := rfl
@[simp] theorem State.setStu_stu (x : Stu) : (s.setStu x).stu = x := rfl
@[simp] theorem State.setStu_hpt (x : Stu) : (s.setStu x).hpt = s.hpt := rfl
@[simp] theorem State.setStu_atc (x : Stu) : (s.setStu x).atc = s.atc := rfl
@[simp] theorem State.setStu_pins (x : Stu) : (s.setStu x).pins = s.pins := rfl
@[simp] theorem State.setStu_free (x : Stu) : (s.setStu x).free = s.free := rfl
@[simp] theorem State.setStu_pending (x : Stu) : (s.setStu x).pending = s.pending := rfl

@[simp] theorem State.setHpt_cfg (x : Hpt) : (s.setHpt x).cfg = s.cfg := rfl
@[simp] theorem State.setHpt_ssc (x : Hpt) : (s.setHpt x).ssc = s.ssc := rfl
@[simp] theorem State.setHpt_spt (x : Hpt) : (s.setHpt x).spt = s.spt := rfl
@[simp] theorem State.setHpt_pcn (x : Hpt) : (s.setHpt x).pcn = s.pcn := rfl
@[simp] theorem State.setHpt_bdp (x : Hpt) : (s.setHpt x).bdp = s.bdp := rfl
@[simp] theorem State.setHpt_clc (x : Hpt) : (s.setHpt x).clc = s.clc := rfl
@[simp] theorem State.setHpt_cmn (x : Hpt) : (s.setHpt x).cmn = s.cmn := rfl
@[simp] theorem State.setHpt_flc (x : Hpt) : (s.setHpt x).flc = s.flc := rfl
@[simp] theorem State.setHpt_bcu (x : Hpt) : (s.setHpt x).bcu = s.bcu := rfl
@[simp] theorem State.setHpt_dsq (x : Hpt) : (s.setHpt x).dsq = s.dsq := rfl
@[simp] theorem State.setHpt_stu (x : Hpt) : (s.setHpt x).stu = s.stu := rfl
@[simp] theorem State.setHpt_hpt (x : Hpt) : (s.setHpt x).hpt = x := rfl
@[simp] theorem State.setHpt_atc (x : Hpt) : (s.setHpt x).atc = s.atc := rfl
@[simp] theorem State.setHpt_pins (x : Hpt) : (s.setHpt x).pins = s.pins := rfl
@[simp] theorem State.setHpt_free (x : Hpt) : (s.setHpt x).free = s.free := rfl
@[simp] theorem State.setHpt_pending (x : Hpt) : (s.setHpt x).pending = s.pending := rfl

@[simp] theorem State.setAtc_cfg (x : Atc) : (s.setAtc x).cfg = s.cfg := rfl
@[simp] theorem State.setAtc_ssc (x : Atc) : (s.setAtc x).ssc = s.ssc := rfl
@[simp] theorem State.setAtc_spt (x : Atc) : (s.setAtc x).spt = s.spt := rfl
@[simp] theorem State.setAtc_pcn (x : Atc) : (s.setAtc x).pcn = s.pcn := rfl
@[simp] theorem State.setAtc_bdp (x : Atc) : (s.setAtc x).bdp = s.bdp := rfl
@[simp] theorem State.setAtc_clc (x : Atc) : (s.setAtc x).clc = s.clc := rfl
@[simp] theorem State.setAtc_cmn (x : Atc) : (s.setAtc x).cmn = s.cmn := rfl
@[simp] theorem State.setAtc_flc (x : Atc) : (s.setAtc x).flc = s.flc := rfl
@[simp] theorem State.setAtc_bcu (x : Atc) : (s.setAtc x).bcu = s.bcu := rfl
@[simp] theorem State.setAtc_dsq (x : Atc) : (s.setAtc x).dsq = s.dsq := rfl
@[simp] theorem State.setAtc_stu (x : Atc) : (s.setAtc x).stu = s.stu := rfl
@[simp] theorem State.setAtc_hpt (x : Atc) : (s.setAtc x).hpt = s.hpt := rfl
@[simp] theorem State.setAtc_atc (x : Atc) : (s.setAtc x).atc = x := rfl
@[simp] theorem State.setAtc_pins (x : Atc) : (s.setAtc x).pins = s.pins := rfl
@[simp] theorem State.setAtc_free (x : Atc) : (s.setAtc x).free = s.free := rfl
@[simp] theorem State.setAtc_pending (x : Atc) : (s.setAtc x).pending = s.pending := rfl

@[simp] theorem State.setPins_cfg (x : Pins) : (s.setPins x).cfg = s.cfg := rfl
@[simp] theorem State.setPins_ssc (x : Pins) : (s.setPins x).ssc = s.ssc := rfl
@[simp] theorem State.setPins_spt (x : Pins) : (s.setPins x).spt = s.spt := rfl
@[simp] theorem State.setPins_pcn (x : Pins) : (s.setPins x).pcn = s.pcn := rfl
@[simp] theorem State.setPins_bdp (x : Pins) : (s.setPins x).bdp = s.bdp := rfl
@[simp] theorem State.setPins_clc (x : Pins) : (s.setPins x).clc = s.clc := rfl
@[simp] theorem State.setPins_cmn (x : Pins) : (s.setPins x).cmn = s.cmn := rfl
@[simp] theorem State.setPins_flc (x : Pins) : (s.setPins x).flc = s.flc := rfl
@[simp] theorem State.setPins_bcu (x : Pins) : (s.setPins x).bcu = s.bcu := rfl
@[simp] theorem State.setPins_dsq (x : Pins) : (s.setPins x).dsq = s.dsq := rfl
@[simp] theorem State.setPins_stu (x : Pins) : (s.setPins x).stu = s.stu := rfl
@[simp] theorem State.setPins_hpt (x : Pins) : (s.setPins x).hpt = s.hpt := rfl
@[simp] theorem State.setPins_atc (x : Pins) : (s.setPins x).atc = s.atc := rfl
@[simp] theorem State.setPins_pins (x : Pins) : (s.setPins x).pins = x := rfl
@[simp] theorem State.setPins_free (x : Pins) : (s.setPins x).free = s.free := rfl
@[simp] theorem State.setPins_pending (x : Pins) : (s.setPins x).pending = s.pending := rfl

@[simp] theorem State.setFree_cfg (x : Nat) : (s.setFree x).cfg = s.cfg := rfl
@[simp] theorem State.setFree_ssc (x : Nat) : (s.setFree x).ssc = s.ssc := rfl
@[simp] theorem State.setFree_spt (x : Nat) : (s.setFree x).spt = s.spt := rfl
@[simp] theorem State.setFree_pcn (x : Nat) : (s.setFree x).pcn = s.pcn := rfl
@[simp] theorem State.setFree_bdp (x : Nat) : (s.setFree x).bdp = s.bdp := rfl
@[simp] theorem State.setFree_clc (x : Nat) : (s.setFree x).clc = s.clc := rfl
@[simp] theorem State.setFree_cmn (x : Nat) : (s.setFree x).cmn = s.cmn := rfl
@[simp] theorem State.setFree_flc (x : Nat) : (s.setFree x).flc = s.flc := rfl
@[simp] theorem State.setFree_bcu (x : Nat) : (s.setFree x).bcu = s.bcu := rfl
@[simp] theorem State.setFree_dsq (x : Nat) : (s.setFree x).dsq = s.dsq := rfl
@[simp] theorem State.setFree_stu (x : Nat) : (s.setFree x).stu = s.stu := rfl
@[simp] theorem State.setFree_hpt (x : Nat) : (s.setFree x).hpt = s.hpt := rfl
@[simp] theorem State.setFree_atc (x : Nat) : (s.setFree x).atc = s.atc := rfl
@[simp] theorem State.setFree_pins (x : Nat) : (s.setFree x).pins = s.pins := rfl
@[simp] theorem State.setFree_free (x : Nat) : (s.setFree x).free = x := rfl
@[simp] theorem State.setFree_pending (x : Nat) : (s.setFree x).pending = s.pending := rfl

@[simp] theorem State.setChain_cfg (sd : Side) (c : Chain) : (s.setChain sd c).cfg = s.cfg := rfl
@[simp] theorem State.setChain_spt (sd : Side) (c : Chain) : (s.setChain sd c).spt = s.spt := rfl
@[simp] theorem State.setChain_pcn (sd : Side) (c : Chain) : (s.setChain sd c).pcn = s.pcn := rfl
@[simp] theorem State.setChain_bdp (sd : Side) (c : Chain) : (s.setChain sd c).bdp = s.bdp := rfl
@[simp] theorem State.setChain_clc (sd : Side) (c : Chain) : (s.setChain sd c).clc = s.clc := rfl
@[simp] theorem State.setChain_cmn (sd : Side) (c : Chain) : (s.setChain sd c).cmn = s.cmn := rfl
@[simp] theorem State.setChain_flc (sd : Side) (c : Chain) : (s.setChain sd c).flc = s.flc := rfl
@[simp] theorem State.setChain_bcu (sd : Side) (c : Chain) : (s.setChain sd c).bcu = s.bcu := rfl
@[simp] theorem State.setChain_dsq (sd : Side) (c : Chain) : (s.setChain sd c).dsq = s.dsq := rfl
@[simp] theorem State.setChain_stu (sd : Side) (c : Chain) : (s.setChain sd c).stu = s.stu := rfl
@[simp] theorem State.setChain_hpt (sd : Side) (c : Chain) : (s.setChain sd c).hpt = s.hpt := rfl
@[simp] theorem State.setChain_atc (sd : Side) (c : Chain) : (s.setChain sd c).atc = s.atc := rfl
@[simp] theorem State.setChain_pins (sd : Side) (c : Chain) : (s.setChain sd c).pins = s.pins := rfl
@[simp] theorem State.setChain_free (sd : Side) (c : Chain) : (s.setChain sd c).free = s.free := rfl
@[simp] theorem State.setChain_pending (sd : Side) (c : Chain) : (s.setChain sd c).pending = s.pending := rfl
@[simp] theorem State.setBreaks_cfg (sd : Side) (b : Breaks) : (s.setBreaks sd b).cfg = s.cfg := rfl
@[simp] theorem State.setBreaks_ssc (sd : Side) (b : Breaks) : (s.setBreaks sd b).ssc = s.ssc := rfl
@[simp] theorem State.setBreaks_spt (sd : Side) (b : Breaks) : (s.setBreaks sd b).spt = s.spt := rfl
@[simp] theorem State.setBreaks_pcn (sd : Side) (b : Breaks) : (s.setBreaks sd b).pcn = s.pcn := rfl
@[simp] theorem State.setBreaks_clc (sd : Side) (b : Breaks) : (s.setBreaks sd b).clc = s.clc := rfl
@[simp] theorem State.setBreaks_cmn (sd : Side) (b : Breaks) : (s.setBreaks sd b).cmn = s.cmn := rfl
@[simp] theorem State.setBreaks_flc (sd : Side) (b : Breaks) : (s.setBreaks sd b).flc = s.flc := rfl
@[simp] theorem State.setBreaks_bcu (sd : Side) (b : Breaks) : (s.setBreaks sd b).bcu = s.bcu := rfl
@[simp] theorem State.setBreaks_dsq (sd : Side) (b : Breaks) : (s.setBreaks sd b).dsq = s.dsq := rfl
@[simp] theorem State.setBreaks_stu (sd : Side) (b : Breaks) : (s.setBreaks sd b).stu = s.stu := rfl
@[simp] theorem State.setBreaks_hpt (sd : Side) (b : Breaks) : (s.setBreaks sd b).hpt = s.hpt := rfl
@[simp] theorem State.setBreaks_atc (sd : Side) (b : Breaks) : (s.setBreaks sd b).atc = s.atc := rfl
@[simp] theorem State.setBreaks_pins (sd : Side) (b : Breaks) : (s.setBreaks sd b).pins = s.pins := rfl
@[simp] theorem State.setBreaks_free (sd : Side) (b : Breaks) : (s.setBreaks sd b).free = s.free := rfl
@[simp] theorem State.setBreaks_pending (sd : Side) (b : Breaks) : (s.setBreaks sd b).pending = s.pending := rfl
@[simp] theorem State.setCar_cfg (sd : Side) (c : Carriage) : (s.setCar sd c).cfg = s.cfg := rfl
@[simp] theorem State.setCar_ssc (sd : Side) (c : Carriage) : (s.setCar sd c).ssc = s.ssc := rfl
@[simp] theorem State.setCar_spt (sd : Side) (c : Carriage) : (s.setCar sd c).spt = s.spt := rfl
@[simp] theorem State.setCar_pcn (sd : Side) (c : Carriage) : (s.setCar sd c).pcn = s.pcn := rfl
@[simp] theorem State.setCar_bdp (sd : Side) (c : Carriage) : (s.setCar sd c).bdp = s.bdp := rfl
@[simp] theorem State.setCar_cmn (sd : Side) (c : Carriage) : (s.setCar sd c).cmn = s.cmn := rfl
@[simp] theorem State.setCar_flc (sd : Side) (c : Carriage) : (s.setCar sd c).flc = s.flc := rfl
@[simp] theorem State.setCar_bcu (sd : Side) (c : Carriage) : (s.setCar sd c).bcu = s.bcu := rfl
@[simp] theorem State.setCar_dsq (sd : Side) (c : Carriage) : (s.setCar sd c).dsq = s.dsq := rfl
@[simp] theorem State.setCar_stu (sd : Side) (c : Carriage) : (s.setCar sd c).stu = s.stu := rfl
@[simp] theorem State.setCar_hpt (sd : Side) (c : Carriage) : (s.setCar sd c).hpt = s.hpt := rfl
@[simp] theorem State.setCar_atc (sd : Side) (c : Carriage) : (s.setCar sd c).atc = s.atc := rfl
@[simp] theorem State.setCar_pins (sd : Side) (c : Carriage) : (s.setCar sd c).pins = s.pins := rfl
@[simp] theorem State.setCar_free (sd : Side) (c : Carriage) : (s.setCar sd c).free = s.free := rfl
@[simp] theorem State.setCar_pending (sd : Side) (c : Carriage) : (s.setCar sd c).pending = s.pending := rfl
@[simp] theorem State.setChain_chains (sd : Side) (c : Chain) :
    (s.setChain sd c).ssc.chains = s.ssc.chains.set sd c := rfl
@[simp] theorem State.setBreaks_bdp (sd : Side) (b : Breaks) :
    (s.setBreaks sd b).bdp = s.bdp.set sd b := rfl
@[simp] theorem State.setCar_clc (sd : Side) (c : Carriage) :
    (s.setCar sd c).clc = s.clc.set sd c := rfl

@[simp] theorem Sides.get_set_same {α : Type} (x : Sides α) (sd : Side) (a : α) : (x.set sd a).get sd = a := by
  cases sd <;> rfl

@[simp] theorem Sides.get_set_ne {α : Type} (x : Sides α) (sd e : Side) (a : α) (h : e ≠ sd) :
    (x.set sd a).get e = x.get e := by
  cases sd <;> cases e <;> first | rfl | exact absurd rfl h

@[simp] theorem State.modSpindle_cfg (sd : Side) (pos : Nat) (f : Spindle → Spindle) : (s.modSpindle sd pos f).cfg = s.cfg := rfl
@[simp] theorem State.modSpindle_ssc (sd : Side) (pos : Nat) (f : Spindle → Spindle) : (s.modSpindle sd pos f).ssc = s.ssc := rfl
@[simp] theorem State.modSpindle_pcn (sd : Side) (pos : Nat) (f : Spindle → Spindle) : (s.modSpindle sd pos f).pcn = s.pcn := rfl
@[simp] theorem State.modSpindle_bdp (sd : Side) (pos : Nat) (f : Spindle → Spindle) : (s.modSpindle sd pos f).bdp = s.bdp := rfl
@[simp] theorem State.modSpindle_clc (sd : Side) (pos : Nat) (f : Spindle → Spindle) : (s.modSpindle sd pos f).clc = s.clc := rfl
@[simp] theorem State.modSpindle_cmn (sd : Side) (pos : Nat) (f : Spindle → Spindle) : (s.modSpindle sd pos f).cmn = s.cmn := rfl
@[simp] theorem State.modSpindle_flc (sd : Side) (pos : Nat) (f : Spindle → Spindle) : (s.modSpindle sd pos f).flc = s.flc := rfl
@[simp] theorem State.modSpindle_bcu (sd : Side) (pos : Nat) (f : Spindle → Spindle) : (s.modSpindle sd pos f).bcu = s.bcu := rfl
@[simp] theorem State.modSpindle_dsq (sd : Side) (pos : Nat) (f : Spindle → Spindle) : (s.modSpindle sd pos f).dsq = s.dsq := rfl
@[simp] theorem State.modSpindle_stu (sd : Side) (pos : Nat) (f : Spindle → Spindle) : (s.modSpindle sd pos f).stu = s.stu := rfl
@[simp] theorem State.modSpindle_hpt (sd : Side) (pos : Nat) (f : Spindle → Spindle) : (s.modSpindle sd pos f).hpt = s.hpt := rfl
@[simp] theorem State.modSpindle_atc (sd : Side) (pos : Nat) (f : Spindle → Spindle) : (s.modSpindle sd pos f).atc = s.atc := rfl
@[simp] theorem State.modSpindle_pins (sd : Side) (pos : Nat) (f : Spindle → Spindle) : (s.modSpindle sd pos f).pins = s.pins := rfl
@[simp] theorem State.modSpindle_free (sd : Side) (pos : Nat) (f : Spindle → Spindle) : (s.modSpindle sd pos f).free = s.free := rfl
@[simp] theorem State.modSpindle_pending (sd : Side) (pos : Nat) (f : Spindle → Spindle) : (s.modSpindle sd pos f).pending = s.pending := rfl
@[simp] theorem State.modSection_cfg (sd : Side) (k : Nat) (f : Section → Section) : (s.modSection sd k f).cfg = s.cfg := rfl
@[simp] theorem State.modSection_spt (sd : Side) (k : Nat) (f : Section → Section) : (s.modSection sd k f).spt = s.spt := rfl
@[simp] theorem State.modSection_pcn (sd : Side) (k : Nat) (f : Section → Section) : (s.modSection sd k f).pcn = s.pcn := rfl
@[simp] theorem State.modSection_bdp (sd : Side) (k : Nat) (f : Section → Section) : (s.modSection sd k f).bdp = s.bdp := rfl
@[simp] theorem State.modSection_clc (sd : Side) (k : Nat) (f : Section → Section) : (s.modSection sd k f).clc = s.clc := rfl
@[simp] theorem State.modSection_cmn (sd : Side) (k : Nat) (f : Section → Section) : (s.modSection sd k f).cmn = s.cmn := rfl
@[simp] theorem State.modSection_flc (sd : Side) (k : Nat) (f : Section → Section) : (s.modSection sd k f).flc = s.flc := rfl
@[simp] theorem State.modSection_bcu (sd : Side) (k : Nat) (f : Section → Section) : (s.modSection sd k f).bcu = s.bcu := rfl
@[simp] theorem State.modSection_dsq (sd : Side) (k : Nat) (f : Section → Section) : (s.modSection sd k f).dsq = s.dsq := rfl
@[simp] theorem State.modSection_stu (sd : Side) (k : Nat) (f : Section → Section) : (s.modSection sd k f).stu = s.stu := rfl
@[simp] theorem State.modSection_hpt (sd : Side) (k : Nat) (f : Section → Section) : (s.modSection sd k f).hpt = s.hpt := rfl
@[simp] theorem State.modSection_atc (sd : Side) (k : Nat) (f : Section → Section) : (s.modSection sd k f).atc = s.atc := rfl
@[simp] theorem State.modSection_pins (sd : Side) (k : Nat) (f : Section → Section) : (s.modSection sd k f).pins = s.pins := rfl
@[simp] theorem State.modSection_free (sd : Side) (k : Nat) (f : Section → Section) : (s.modSection sd k f).free = s.free := rfl
@[simp] theorem State.modSection_pending (sd : Side) (k : Nat) (f : Section → Section) : (s.modSection sd k f).pending = s.pending := rfl
@[simp] theorem State.modGroup_cfg (k : Nat) (f : Group → Group) : (s.modGroup k f).cfg = s.cfg := by
  unfold State.modGroup; split <;> rfl
@[simp] theorem State.modGroup_ssc (k : Nat) (f : Group → Group) : (s.modGroup k f).ssc = s.ssc := by
  unfold State.modGroup; split <;> rfl
@[simp] theorem State.modGroup_spt (k : Nat) (f : Group → Group) : (s.modGroup k f).spt = s.spt := by
  unfold State.modGroup; split <;> rfl
@[simp] theorem State.modGroup_pcn (k : Nat) (f : Group → Group) : (s.modGroup k f).pcn = s.pcn := by
  unfold State.modGroup; split <;> rfl
@[simp] theorem State.modGroup_bdp (k : Nat) (f : Group → Group) : (s.modGroup k f).bdp = s.bdp := by
  unfold State.modGroup; split <;> rfl
@[simp] theorem State.modGroup_clc (k : Nat) (f : Group → Group) : (s.modGroup k f).clc = s.clc := by
  unfold State.modGroup; split <;> rfl
@[simp] theorem State.modGroup_flc (k : Nat) (f : Group → Group) : (s.modGroup k f).flc = s.flc := by
  unfold State.modGroup; split <;> rfl
@[simp] theorem State.modGroup_bcu (k : Nat) (f : Group → Group) : (s.modGroup k f).bcu = s.bcu := by
  unfold State.modGroup; split <;> rfl
@[simp] theorem State.modGroup_dsq (k : Nat) (f : Group → Group) : (s.modGroup k f).dsq = s.dsq := by
  unfold State.modGroup; split <;> rfl
@[simp] theorem State.modGroup_stu (k : Nat) (f : Group → Group) : (s.modGroup k f).stu = s.stu := by
  unfold State.modGroup; split <;> rfl
@[simp] theorem State.modGroup_hpt (k : Nat) (f : Group → Group) : (s.modGroup k f).hpt = s.hpt := by
  unfold State.modGroup; split <;> rfl
@[simp] theorem State.modGroup_atc (k : Nat) (f : Group → Group) : (s.modGroup k f).atc = s.atc := by
  unfold State.modGroup; split <;> rfl
@[simp] theorem State.modGroup_pins (k : Nat) (f : Group → Group) : (s.modGroup k f).pins = s.pins := by
  unfold State.modGroup; split <;> rfl
@[simp] theorem State.modGroup_free (k : Nat) (f : Group → Group) : (s.modGroup k f).free = s.free := by
  unfold State.modGroup; split <;> rfl
@[simp] theorem State.modGroup_pending (k : Nat) (f : Group → Group) : (s.modGroup k f).pending = s.pending := by
  unfold State.modGroup; split <;> rfl

end Sys2Proof.Machine
end

