-- ==== Sys2Proof/Laws/FramesFloor.lean ====
section
/-! SUPPORT. What each shared operation leaves unchanged: the attention flags, the transmit side, the creel groups and the claims. -/

namespace Sys2Proof.Machine

open Sys2Proof.Config

/-! ### What every update of a block keeps of the configuration -/

@[simp] theorem State.setSsc_conf (s : State) (x : Ssc) :
    (s.setSsc x).conf = s.conf ∧ (s.setSsc x).n = s.n := ⟨rfl, rfl⟩
@[simp] theorem State.setSpt_conf (s : State) (x : Spt) :
    (s.setSpt x).conf = s.conf ∧ (s.setSpt x).n = s.n := ⟨rfl, rfl⟩
@[simp] theorem State.setPcn_conf (s : State) (x : Pcn) :
    (s.setPcn x).conf = s.conf ∧ (s.setPcn x).n = s.n := ⟨rfl, rfl⟩
@[simp] theorem State.setBdp_conf (s : State) (x : Sides Breaks) :
    (s.setBdp x).conf = s.conf ∧ (s.setBdp x).n = s.n := ⟨rfl, rfl⟩
@[simp] theorem State.setClc_conf (s : State) (x : Sides Carriage) :
    (s.setClc x).conf = s.conf ∧ (s.setClc x).n = s.n := ⟨rfl, rfl⟩
@[simp] theorem State.setCmn_conf (s : State) (x : Cmn) :
    (s.setCmn x).conf = s.conf ∧ (s.setCmn x).n = s.n := ⟨rfl, rfl⟩
@[simp] theorem State.setFlc_conf (s : State) (x : Flc) :
    (s.setFlc x).conf = s.conf ∧ (s.setFlc x).n = s.n := ⟨rfl, rfl⟩
@[simp] theorem State.setBcu_conf (s : State) (x : Bcu) :
    (s.setBcu x).conf = s.conf ∧ (s.setBcu x).n = s.n := ⟨rfl, rfl⟩
@[simp] theorem State.setDsq_conf (s : State) (x : Dsq) :
    (s.setDsq x).conf = s.conf ∧ (s.setDsq x).n = s.n := ⟨rfl, rfl⟩
@[simp] theorem State.setStu_conf (s : State) (x : Stu) :
    (s.setStu x).conf = s.conf ∧ (s.setStu x).n = s.n := ⟨rfl, rfl⟩
@[simp] theorem State.setHpt_conf (s : State) (x : Hpt) :
    (s.setHpt x).conf = s.conf ∧ (s.setHpt x).n = s.n := ⟨rfl, rfl⟩
@[simp] theorem State.setAtc_conf (s : State) (x : Atc) :
    (s.setAtc x).conf = s.conf ∧ (s.setAtc x).n = s.n := ⟨rfl, rfl⟩
@[simp] theorem State.setPins_conf (s : State) (x : Pins) :
    (s.setPins x).conf = s.conf ∧ (s.setPins x).n = s.n := ⟨rfl, rfl⟩
@[simp] theorem State.setFree_conf (s : State) (x : Nat) :
    (s.setFree x).conf = s.conf ∧ (s.setFree x).n = s.n := ⟨rfl, rfl⟩
@[simp] theorem State.setChain_conf (s : State) (sd : Side) (x : Chain) :
    (s.setChain sd x).conf = s.conf ∧ (s.setChain sd x).n = s.n := ⟨rfl, rfl⟩
@[simp] theorem State.setBreaks_conf (s : State) (sd : Side) (x : Breaks) :
    (s.setBreaks sd x).conf = s.conf ∧ (s.setBreaks sd x).n = s.n := ⟨rfl, rfl⟩
@[simp] theorem State.setCar_conf (s : State) (sd : Side) (x : Carriage) :
    (s.setCar sd x).conf = s.conf ∧ (s.setCar sd x).n = s.n := ⟨rfl, rfl⟩
@[simp] theorem State.modSpindle_conf (s : State) (sd : Side) (k : Nat) (f : Spindle → Spindle) :
    (s.modSpindle sd k f).conf = s.conf ∧ (s.modSpindle sd k f).n = s.n := ⟨rfl, rfl⟩
@[simp] theorem State.modSection_conf (s : State) (sd : Side) (k : Nat) (f : Section → Section) :
    (s.modSection sd k f).conf = s.conf ∧ (s.modSection sd k f).n = s.n := ⟨rfl, rfl⟩
@[simp] theorem State.modGroup_conf (s : State) (k : Nat) (f : Group → Group) :
    (s.modGroup k f).conf = s.conf ∧ (s.modGroup k f).n = s.n := by
  unfold State.modGroup; split <;> exact ⟨rfl, rfl⟩
@[simp] theorem State.setChain_tier (s : State) (sd : Side) (c : Chain) :
    (s.setChain sd c).ssc.tier = s.ssc.tier := rfl
@[simp] theorem State.modSection_tier (s : State) (sd : Side) (k : Nat) (f : Section → Section) :
    (s.modSection sd k f).ssc.tier = s.ssc.tier := rfl

/-! ### A fold keeps what each of its steps keeps -/

@[simp] theorem foldl_cfg {α : Type} (f : State → α → State)
    (l : List α) (s : State) (h : ∀ s a, (f s a).cfg = s.cfg) :
    (l.foldl f s).cfg = s.cfg := by
  induction l generalizing s with
  | nil => rfl
  | cons a l ih => simp [ih, h]
@[simp] theorem foldl_ssc {α : Type} (f : State → α → State)
    (l : List α) (s : State) (h : ∀ s a, (f s a).ssc = s.ssc) :
    (l.foldl f s).ssc = s.ssc := by
  induction l generalizing s with
  | nil => rfl
  | cons a l ih => simp [ih, h]
@[simp] theorem foldl_spt {α : Type} (f : State → α → State)
    (l : List α) (s : State) (h : ∀ s a, (f s a).spt = s.spt) :
    (l.foldl f s).spt = s.spt := by
  induction l generalizing s with
  | nil => rfl
  | cons a l ih => simp [ih, h]
@[simp] theorem foldl_pcn {α : Type} (f : State → α → State)
    (l : List α) (s : State) (h : ∀ s a, (f s a).pcn = s.pcn) :
    (l.foldl f s).pcn = s.pcn := by
  induction l generalizing s with
  | nil => rfl
  | cons a l ih => simp [ih, h]
@[simp] theorem foldl_bdp {α : Type} (f : State → α → State)
    (l : List α) (s : State) (h : ∀ s a, (f s a).bdp = s.bdp) :
    (l.foldl f s).bdp = s.bdp := by
  induction l generalizing s with
  | nil => rfl
  | cons a l ih => simp [ih, h]
@[simp] theorem foldl_clc {α : Type} (f : State → α → State)
    (l : List α) (s : State) (h : ∀ s a, (f s a).clc = s.clc) :
    (l.foldl f s).clc = s.clc := by
  induction l generalizing s with
  | nil => rfl
  | cons a l ih => simp [ih, h]
@[simp] theorem foldl_cmn {α : Type} (f : State → α → State)
    (l : List α) (s : State) (h : ∀ s a, (f s a).cmn = s.cmn) :
    (l.foldl f s).cmn = s.cmn := by
  induction l generalizing s with
  | nil => rfl
  | cons a l ih => simp [ih, h]
@[simp] theorem foldl_flc {α : Type} (f : State → α → State)
    (l : List α) (s : State) (h : ∀ s a, (f s a).flc = s.flc) :
    (l.foldl f s).flc = s.flc := by
  induction l generalizing s with
  | nil => rfl
  | cons a l ih => simp [ih, h]
@[simp] theorem foldl_bcu {α : Type} (f : State → α → State)
    (l : List α) (s : State) (h : ∀ s a, (f s a).bcu = s.bcu) :
    (l.foldl f s).bcu = s.bcu := by
  induction l generalizing s with
  | nil => rfl
  | cons a l ih => simp [ih, h]
@[simp] theorem foldl_dsq {α : Type} (f : State → α → State)
    (l : List α) (s : State) (h : ∀ s a, (f s a).dsq = s.dsq) :
    (l.foldl f s).dsq = s.dsq := by
  induction l generalizing s with
  | nil => rfl
  | cons a l ih => simp [ih, h]
@[simp] theorem foldl_stu {α : Type} (f : State → α → State)
    (l : List α) (s : State) (h : ∀ s a, (f s a).stu = s.stu) :
    (l.foldl f s).stu = s.stu := by
  induction l generalizing s with
  | nil => rfl
  | cons a l ih => simp [ih, h]
@[simp] theorem foldl_hpt {α : Type} (f : State → α → State)
    (l : List α) (s : State) (h : ∀ s a, (f s a).hpt = s.hpt) :
    (l.foldl f s).hpt = s.hpt := by
  induction l generalizing s with
  | nil => rfl
  | cons a l ih => simp [ih, h]
@[simp] theorem foldl_atc {α : Type} (f : State → α → State)
    (l : List α) (s : State) (h : ∀ s a, (f s a).atc = s.atc) :
    (l.foldl f s).atc = s.atc := by
  induction l generalizing s with
  | nil => rfl
  | cons a l ih => simp [ih, h]
@[simp] theorem foldl_pins {α : Type} (f : State → α → State)
    (l : List α) (s : State) (h : ∀ s a, (f s a).pins = s.pins) :
    (l.foldl f s).pins = s.pins := by
  induction l generalizing s with
  | nil => rfl
  | cons a l ih => simp [ih, h]
@[simp] theorem foldl_free {α : Type} (f : State → α → State)
    (l : List α) (s : State) (h : ∀ s a, (f s a).free = s.free) :
    (l.foldl f s).free = s.free := by
  induction l generalizing s with
  | nil => rfl
  | cons a l ih => simp [ih, h]
@[simp] theorem foldl_pending {α : Type} (f : State → α → State)
    (l : List α) (s : State) (h : ∀ s a, (f s a).pending = s.pending) :
    (l.foldl f s).pending = s.pending := by
  induction l generalizing s with
  | nil => rfl
  | cons a l ih => simp [ih, h]
@[simp] theorem foldl_flc_clock {α : Type} (f : State → α → State)
    (l : List α) (s : State) (h : ∀ s a, (f s a).flc.clock = s.flc.clock) :
    (l.foldl f s).flc.clock = s.flc.clock := by
  induction l generalizing s with
  | nil => rfl
  | cons a l ih => simp [ih, h]
@[simp] theorem foldl_flc_link {α : Type} (f : State → α → State)
    (l : List α) (s : State) (h : ∀ s a, (f s a).flc.link = s.flc.link) :
    (l.foldl f s).flc.link = s.flc.link := by
  induction l generalizing s with
  | nil => rfl
  | cons a l ih => simp [ih, h]
@[simp] theorem foldl_flc_peers {α : Type} (f : State → α → State)
    (l : List α) (s : State) (h : ∀ s a, (f s a).flc.peers = s.flc.peers) :
    (l.foldl f s).flc.peers = s.flc.peers := by
  induction l generalizing s with
  | nil => rfl
  | cons a l ih => simp [ih, h]
@[simp] theorem foldl_ssc_tier {α : Type} (f : State → α → State)
    (l : List α) (s : State) (h : ∀ s a, (f s a).ssc.tier = s.ssc.tier) :
    (l.foldl f s).ssc.tier = s.ssc.tier := by
  induction l generalizing s with
  | nil => rfl
  | cons a l ih => simp [ih, h]
@[simp] theorem foldl_dsq_phase {α : Type} (f : State → α → State)
    (l : List α) (s : State) (h : ∀ s a, (f s a).dsq.phase = s.dsq.phase) :
    (l.foldl f s).dsq.phase = s.dsq.phase := by
  induction l generalizing s with
  | nil => rfl
  | cons a l ih => simp [ih, h]
@[simp] theorem foldl_conf {α : Type} (f : State → α → State)
    (l : List α) (s : State) (h : ∀ s a, (f s a).conf = s.conf) :
    (l.foldl f s).conf = s.conf := by
  induction l generalizing s with
  | nil => rfl
  | cons a l ih => simp [ih, h]
@[simp] theorem foldl_n {α : Type} (f : State → α → State)
    (l : List α) (s : State) (h : ∀ s a, (f s a).n = s.n) :
    (l.foldl f s).n = s.n := by
  induction l generalizing s with
  | nil => rfl
  | cons a l ih => simp [ih, h]

/-! ### The operations -/

@[simp] theorem raise_keeps (c : AttnClass) (urgent : Bool) (s : State) :
    (raise c urgent s).cfg = s.cfg ∧
    (raise c urgent s).ssc = s.ssc ∧
    (raise c urgent s).spt = s.spt ∧
    (raise c urgent s).pcn = s.pcn ∧
    (raise c urgent s).bdp = s.bdp ∧
    (raise c urgent s).clc = s.clc ∧
    (raise c urgent s).cmn = s.cmn ∧
    (raise c urgent s).flc = s.flc ∧
    (raise c urgent s).bcu = s.bcu ∧
    (raise c urgent s).dsq = s.dsq ∧
    (raise c urgent s).stu = s.stu ∧
    (raise c urgent s).hpt = s.hpt ∧
    (raise c urgent s).pins = s.pins ∧
    (raise c urgent s).free = s.free ∧
    (raise c urgent s).pending = s.pending ∧
    (raise c urgent s).conf = s.conf ∧
    (raise c urgent s).n = s.n := by
  simp [raise]

@[simp] theorem fillSlot_keeps (s : State) :
    (fillSlot s).cfg = s.cfg ∧
    (fillSlot s).ssc = s.ssc ∧
    (fillSlot s).spt = s.spt ∧
    (fillSlot s).pcn = s.pcn ∧
    (fillSlot s).bdp = s.bdp ∧
    (fillSlot s).clc = s.clc ∧
    (fillSlot s).cmn = s.cmn ∧
    (fillSlot s).bcu = s.bcu ∧
    (fillSlot s).dsq = s.dsq ∧
    (fillSlot s).stu = s.stu ∧
    (fillSlot s).hpt = s.hpt ∧
    (fillSlot s).atc = s.atc ∧
    (fillSlot s).pins = s.pins ∧
    (fillSlot s).pending = s.pending ∧
    (fillSlot s).flc.clock = s.flc.clock ∧
    (fillSlot s).flc.link = s.flc.link ∧
    (fillSlot s).flc.peers = s.flc.peers ∧
    (fillSlot s).conf = s.conf ∧
    (fillSlot s).n = s.n := by
  unfold fillSlot
  dsimp only
  repeat' first
    | (solve | simp)
    | split

@[simp] theorem offer_keeps (m : Msg) (s : State) :
    (offer m s).cfg = s.cfg ∧
    (offer m s).ssc = s.ssc ∧
    (offer m s).spt = s.spt ∧
    (offer m s).pcn = s.pcn ∧
    (offer m s).bdp = s.bdp ∧
    (offer m s).clc = s.clc ∧
    (offer m s).cmn = s.cmn ∧
    (offer m s).bcu = s.bcu ∧
    (offer m s).dsq = s.dsq ∧
    (offer m s).stu = s.stu ∧
    (offer m s).hpt = s.hpt ∧
    (offer m s).atc = s.atc ∧
    (offer m s).pins = s.pins ∧
    (offer m s).pending = s.pending ∧
    (offer m s).flc.clock = s.flc.clock ∧
    (offer m s).flc.link = s.flc.link ∧
    (offer m s).flc.peers = s.flc.peers ∧
    (offer m s).conf = s.conf ∧
    (offer m s).n = s.n := by
  unfold offer
  dsimp only
  repeat' first
    | (solve | simp)
    | split

@[simp] theorem abandonTransmission_keeps (s : State) :
    (abandonTransmission s).cfg = s.cfg ∧
    (abandonTransmission s).ssc = s.ssc ∧
    (abandonTransmission s).spt = s.spt ∧
    (abandonTransmission s).pcn = s.pcn ∧
    (abandonTransmission s).bdp = s.bdp ∧
    (abandonTransmission s).clc = s.clc ∧
    (abandonTransmission s).cmn = s.cmn ∧
    (abandonTransmission s).bcu = s.bcu ∧
    (abandonTransmission s).dsq = s.dsq ∧
    (abandonTransmission s).stu = s.stu ∧
    (abandonTransmission s).hpt = s.hpt ∧
    (abandonTransmission s).atc = s.atc ∧
    (abandonTransmission s).pins = s.pins ∧
    (abandonTransmission s).free = s.free ∧
    (abandonTransmission s).pending = s.pending ∧
    (abandonTransmission s).flc.clock = s.flc.clock ∧
    (abandonTransmission s).flc.link = s.flc.link ∧
    (abandonTransmission s).flc.peers = s.flc.peers ∧
    (abandonTransmission s).conf = s.conf ∧
    (abandonTransmission s).n = s.n := by
  unfold abandonTransmission
  dsimp only
  repeat' first
    | (solve | simp)
    | split

@[simp] theorem clearQueue_keeps (s : State) :
    (clearQueue s).cfg = s.cfg ∧
    (clearQueue s).ssc = s.ssc ∧
    (clearQueue s).spt = s.spt ∧
    (clearQueue s).pcn = s.pcn ∧
    (clearQueue s).bdp = s.bdp ∧
    (clearQueue s).clc = s.clc ∧
    (clearQueue s).cmn = s.cmn ∧
    (clearQueue s).bcu = s.bcu ∧
    (clearQueue s).dsq = s.dsq ∧
    (clearQueue s).stu = s.stu ∧
    (clearQueue s).hpt = s.hpt ∧
    (clearQueue s).atc = s.atc ∧
    (clearQueue s).pins = s.pins ∧
    (clearQueue s).free = s.free ∧
    (clearQueue s).pending = s.pending ∧
    (clearQueue s).flc.clock = s.flc.clock ∧
    (clearQueue s).flc.link = s.flc.link ∧
    (clearQueue s).flc.peers = s.flc.peers ∧
    (clearQueue s).conf = s.conf ∧
    (clearQueue s).n = s.n := by
  simp [clearQueue]

@[simp] theorem transmitAttemptStart_keeps (s : State) :
    (transmitAttemptStart s).cfg = s.cfg ∧
    (transmitAttemptStart s).ssc = s.ssc ∧
    (transmitAttemptStart s).spt = s.spt ∧
    (transmitAttemptStart s).pcn = s.pcn ∧
    (transmitAttemptStart s).bdp = s.bdp ∧
    (transmitAttemptStart s).clc = s.clc ∧
    (transmitAttemptStart s).cmn = s.cmn ∧
    (transmitAttemptStart s).bcu = s.bcu ∧
    (transmitAttemptStart s).dsq = s.dsq ∧
    (transmitAttemptStart s).stu = s.stu ∧
    (transmitAttemptStart s).hpt = s.hpt ∧
    (transmitAttemptStart s).atc = s.atc ∧
    (transmitAttemptStart s).pins = s.pins ∧
    (transmitAttemptStart s).free = s.free ∧
    (transmitAttemptStart s).pending = s.pending ∧
    (transmitAttemptStart s).flc.clock = s.flc.clock ∧
    (transmitAttemptStart s).flc.link = s.flc.link ∧
    (transmitAttemptStart s).flc.peers = s.flc.peers ∧
    (transmitAttemptStart s).conf = s.conf ∧
    (transmitAttemptStart s).n = s.n := by
  unfold transmitAttemptStart
  dsimp only
  repeat' first
    | (solve | simp)
    | split

@[simp] theorem backoffCountdownStopped_keeps (counted : Nat) (s : State) :
    (backoffCountdownStopped counted s).cfg = s.cfg ∧
    (backoffCountdownStopped counted s).ssc = s.ssc ∧
    (backoffCountdownStopped counted s).spt = s.spt ∧
    (backoffCountdownStopped counted s).pcn = s.pcn ∧
    (backoffCountdownStopped counted s).bdp = s.bdp ∧
    (backoffCountdownStopped counted s).clc = s.clc ∧
    (backoffCountdownStopped counted s).cmn = s.cmn ∧
    (backoffCountdownStopped counted s).bcu = s.bcu ∧
    (backoffCountdownStopped counted s).dsq = s.dsq ∧
    (backoffCountdownStopped counted s).stu = s.stu ∧
    (backoffCountdownStopped counted s).hpt = s.hpt ∧
    (backoffCountdownStopped counted s).atc = s.atc ∧
    (backoffCountdownStopped counted s).pins = s.pins ∧
    (backoffCountdownStopped counted s).free = s.free ∧
    (backoffCountdownStopped counted s).pending = s.pending ∧
    (backoffCountdownStopped counted s).flc.clock = s.flc.clock ∧
    (backoffCountdownStopped counted s).flc.link = s.flc.link ∧
    (backoffCountdownStopped counted s).flc.peers = s.flc.peers ∧
    (backoffCountdownStopped counted s).conf = s.conf ∧
    (backoffCountdownStopped counted s).n = s.n := by
  unfold backoffCountdownStopped
  dsimp only
  repeat' first
    | (solve | simp)
    | split

@[simp] theorem testLow_keeps (index : Nat) (s : State) :
    (testLow index s).cfg = s.cfg ∧
    (testLow index s).ssc = s.ssc ∧
    (testLow index s).spt = s.spt ∧
    (testLow index s).pcn = s.pcn ∧
    (testLow index s).bdp = s.bdp ∧
    (testLow index s).clc = s.clc ∧
    (testLow index s).flc = s.flc ∧
    (testLow index s).bcu = s.bcu ∧
    (testLow index s).dsq = s.dsq ∧
    (testLow index s).stu = s.stu ∧
    (testLow index s).hpt = s.hpt ∧
    (testLow index s).pins = s.pins ∧
    (testLow index s).free = s.free ∧
    (testLow index s).pending = s.pending ∧
    (testLow index s).conf = s.conf ∧
    (testLow index s).n = s.n := by
  unfold testLow
  repeat' first
    | (solve | simp)
    | split

@[simp] theorem outRise_keeps (index : Nat) (s : State) :
    (outRise index s).cfg = s.cfg ∧
    (outRise index s).ssc = s.ssc ∧
    (outRise index s).spt = s.spt ∧
    (outRise index s).pcn = s.pcn ∧
    (outRise index s).bdp = s.bdp ∧
    (outRise index s).clc = s.clc ∧
    (outRise index s).flc = s.flc ∧
    (outRise index s).bcu = s.bcu ∧
    (outRise index s).dsq = s.dsq ∧
    (outRise index s).stu = s.stu ∧
    (outRise index s).hpt = s.hpt ∧
    (outRise index s).pins = s.pins ∧
    (outRise index s).free = s.free ∧
    (outRise index s).pending = s.pending ∧
    (outRise index s).conf = s.conf ∧
    (outRise index s).n = s.n := by
  simp [outRise]

@[simp] theorem outFall_keeps (index n : Nat) (s : State) :
    (outFall index n s).cfg = s.cfg ∧
    (outFall index n s).ssc = s.ssc ∧
    (outFall index n s).spt = s.spt ∧
    (outFall index n s).pcn = s.pcn ∧
    (outFall index n s).bdp = s.bdp ∧
    (outFall index n s).clc = s.clc ∧
    (outFall index n s).flc = s.flc ∧
    (outFall index n s).bcu = s.bcu ∧
    (outFall index n s).dsq = s.dsq ∧
    (outFall index n s).stu = s.stu ∧
    (outFall index n s).hpt = s.hpt ∧
    (outFall index n s).pins = s.pins ∧
    (outFall index n s).free = s.free ∧
    (outFall index n s).pending = s.pending ∧
    (outFall index n s).conf = s.conf ∧
    (outFall index n s).n = s.n := by
  simp [outFall]

@[simp] theorem drawDown_keeps (index whole : Nat) (s : State) :
    (drawDown index whole s).cfg = s.cfg ∧
    (drawDown index whole s).ssc = s.ssc ∧
    (drawDown index whole s).spt = s.spt ∧
    (drawDown index whole s).pcn = s.pcn ∧
    (drawDown index whole s).bdp = s.bdp ∧
    (drawDown index whole s).clc = s.clc ∧
    (drawDown index whole s).flc = s.flc ∧
    (drawDown index whole s).bcu = s.bcu ∧
    (drawDown index whole s).dsq = s.dsq ∧
    (drawDown index whole s).stu = s.stu ∧
    (drawDown index whole s).hpt = s.hpt ∧
    (drawDown index whole s).pins = s.pins ∧
    (drawDown index whole s).free = s.free ∧
    (drawDown index whole s).pending = s.pending ∧
    (drawDown index whole s).conf = s.conf ∧
    (drawDown index whole s).n = s.n := by
  unfold drawDown
  dsimp only
  repeat' first
    | (solve | simp)
    | split

@[simp] theorem settleGroup_keeps (index : Nat) (s : State) :
    (settleGroup index s).cfg = s.cfg ∧
    (settleGroup index s).ssc = s.ssc ∧
    (settleGroup index s).spt = s.spt ∧
    (settleGroup index s).pcn = s.pcn ∧
    (settleGroup index s).bdp = s.bdp ∧
    (settleGroup index s).clc = s.clc ∧
    (settleGroup index s).flc = s.flc ∧
    (settleGroup index s).bcu = s.bcu ∧
    (settleGroup index s).dsq = s.dsq ∧
    (settleGroup index s).stu = s.stu ∧
    (settleGroup index s).hpt = s.hpt ∧
    (settleGroup index s).atc = s.atc ∧
    (settleGroup index s).pins = s.pins ∧
    (settleGroup index s).free = s.free ∧
    (settleGroup index s).pending = s.pending ∧
    (settleGroup index s).conf = s.conf ∧
    (settleGroup index s).n = s.n := by
  simp [settleGroup]

@[simp] theorem countCmn_keeps (f : CmnCounts → CmnCounts) (s : State) :
    (countCmn f s).cfg = s.cfg ∧
    (countCmn f s).ssc = s.ssc ∧
    (countCmn f s).spt = s.spt ∧
    (countCmn f s).pcn = s.pcn ∧
    (countCmn f s).bdp = s.bdp ∧
    (countCmn f s).clc = s.clc ∧
    (countCmn f s).flc = s.flc ∧
    (countCmn f s).bcu = s.bcu ∧
    (countCmn f s).dsq = s.dsq ∧
    (countCmn f s).stu = s.stu ∧
    (countCmn f s).hpt = s.hpt ∧
    (countCmn f s).atc = s.atc ∧
    (countCmn f s).pins = s.pins ∧
    (countCmn f s).free = s.free ∧
    (countCmn f s).pending = s.pending ∧
    (countCmn f s).conf = s.conf ∧
    (countCmn f s).n = s.n := by
  simp [countCmn]

@[simp] theorem countBcu_keeps (f : BcuCounts → BcuCounts) (s : State) :
    (countBcu f s).cfg = s.cfg ∧
    (countBcu f s).ssc = s.ssc ∧
    (countBcu f s).spt = s.spt ∧
    (countBcu f s).pcn = s.pcn ∧
    (countBcu f s).bdp = s.bdp ∧
    (countBcu f s).clc = s.clc ∧
    (countBcu f s).cmn = s.cmn ∧
    (countBcu f s).flc = s.flc ∧
    (countBcu f s).dsq = s.dsq ∧
    (countBcu f s).stu = s.stu ∧
    (countBcu f s).hpt = s.hpt ∧
    (countBcu f s).atc = s.atc ∧
    (countBcu f s).pins = s.pins ∧
    (countBcu f s).free = s.free ∧
    (countBcu f s).pending = s.pending ∧
    (countBcu f s).conf = s.conf ∧
    (countBcu f s).n = s.n := by
  simp [countBcu]

@[simp] theorem startDoffClaim_keeps (s : State) :
    (startDoffClaim s).cfg = s.cfg ∧
    (startDoffClaim s).ssc = s.ssc ∧
    (startDoffClaim s).spt = s.spt ∧
    (startDoffClaim s).pcn = s.pcn ∧
    (startDoffClaim s).bdp = s.bdp ∧
    (startDoffClaim s).clc = s.clc ∧
    (startDoffClaim s).cmn = s.cmn ∧
    (startDoffClaim s).stu = s.stu ∧
    (startDoffClaim s).hpt = s.hpt ∧
    (startDoffClaim s).atc = s.atc ∧
    (startDoffClaim s).pins = s.pins ∧
    (startDoffClaim s).pending = s.pending ∧
    (startDoffClaim s).flc.clock = s.flc.clock ∧
    (startDoffClaim s).flc.link = s.flc.link ∧
    (startDoffClaim s).flc.peers = s.flc.peers ∧
    (startDoffClaim s).conf = s.conf ∧
    (startDoffClaim s).n = s.n := by
  simp [startDoffClaim]

@[simp] theorem reclaimTest_keeps (s : State) :
    (reclaimTest s).cfg = s.cfg ∧
    (reclaimTest s).ssc = s.ssc ∧
    (reclaimTest s).spt = s.spt ∧
    (reclaimTest s).pcn = s.pcn ∧
    (reclaimTest s).bdp = s.bdp ∧
    (reclaimTest s).clc = s.clc ∧
    (reclaimTest s).cmn = s.cmn ∧
    (reclaimTest s).stu = s.stu ∧
    (reclaimTest s).hpt = s.hpt ∧
    (reclaimTest s).atc = s.atc ∧
    (reclaimTest s).pins = s.pins ∧
    (reclaimTest s).pending = s.pending ∧
    (reclaimTest s).flc.clock = s.flc.clock ∧
    (reclaimTest s).flc.link = s.flc.link ∧
    (reclaimTest s).flc.peers = s.flc.peers ∧
    (reclaimTest s).conf = s.conf ∧
    (reclaimTest s).n = s.n := by
  unfold reclaimTest
  dsimp only
  repeat' first
    | (solve | simp)
    | split

@[simp] theorem handHoldUrgency_keeps (s : State) :
    (handHoldUrgency s).cfg = s.cfg ∧
    (handHoldUrgency s).ssc = s.ssc ∧
    (handHoldUrgency s).spt = s.spt ∧
    (handHoldUrgency s).pcn = s.pcn ∧
    (handHoldUrgency s).bdp = s.bdp ∧
    (handHoldUrgency s).clc = s.clc ∧
    (handHoldUrgency s).cmn = s.cmn ∧
    (handHoldUrgency s).stu = s.stu ∧
    (handHoldUrgency s).hpt = s.hpt ∧
    (handHoldUrgency s).atc = s.atc ∧
    (handHoldUrgency s).pins = s.pins ∧
    (handHoldUrgency s).pending = s.pending ∧
    (handHoldUrgency s).flc.clock = s.flc.clock ∧
    (handHoldUrgency s).flc.link = s.flc.link ∧
    (handHoldUrgency s).flc.peers = s.flc.peers ∧
    (handHoldUrgency s).conf = s.conf ∧
    (handHoldUrgency s).n = s.n := by
  unfold handHoldUrgency
  dsimp only
  repeat' first
    | (solve | simp)
    | split

@[simp] theorem enterHolding_keeps (urgency : Nat) (s : State) :
    (enterHolding urgency s).cfg = s.cfg ∧
    (enterHolding urgency s).ssc = s.ssc ∧
    (enterHolding urgency s).spt = s.spt ∧
    (enterHolding urgency s).pcn = s.pcn ∧
    (enterHolding urgency s).bdp = s.bdp ∧
    (enterHolding urgency s).clc = s.clc ∧
    (enterHolding urgency s).cmn = s.cmn ∧
    (enterHolding urgency s).stu = s.stu ∧
    (enterHolding urgency s).hpt = s.hpt ∧
    (enterHolding urgency s).atc = s.atc ∧
    (enterHolding urgency s).pins = s.pins ∧
    (enterHolding urgency s).pending = s.pending ∧
    (enterHolding urgency s).flc.clock = s.flc.clock ∧
    (enterHolding urgency s).flc.link = s.flc.link ∧
    (enterHolding urgency s).flc.peers = s.flc.peers ∧
    (enterHolding urgency s).conf = s.conf ∧
    (enterHolding urgency s).n = s.n := by
  unfold enterHolding
  dsimp only
  repeat' first
    | (solve | simp)
    | split

@[simp] theorem holdDoffClaim_keeps (urgency : Nat) (s : State) :
    (holdDoffClaim urgency s).cfg = s.cfg ∧
    (holdDoffClaim urgency s).ssc = s.ssc ∧
    (holdDoffClaim urgency s).spt = s.spt ∧
    (holdDoffClaim urgency s).pcn = s.pcn ∧
    (holdDoffClaim urgency s).bdp = s.bdp ∧
    (holdDoffClaim urgency s).clc = s.clc ∧
    (holdDoffClaim urgency s).cmn = s.cmn ∧
    (holdDoffClaim urgency s).flc = s.flc ∧
    (holdDoffClaim urgency s).dsq = s.dsq ∧
    (holdDoffClaim urgency s).stu = s.stu ∧
    (holdDoffClaim urgency s).hpt = s.hpt ∧
    (holdDoffClaim urgency s).atc = s.atc ∧
    (holdDoffClaim urgency s).pins = s.pins ∧
    (holdDoffClaim urgency s).free = s.free ∧
    (holdDoffClaim urgency s).pending = s.pending ∧
    (holdDoffClaim urgency s).conf = s.conf ∧
    (holdDoffClaim urgency s).n = s.n := by
  simp [holdDoffClaim]

@[simp] theorem doffYield_keeps (r : DoffRecord) (s : State) :
    (doffYield r s).cfg = s.cfg ∧
    (doffYield r s).ssc = s.ssc ∧
    (doffYield r s).spt = s.spt ∧
    (doffYield r s).pcn = s.pcn ∧
    (doffYield r s).bdp = s.bdp ∧
    (doffYield r s).clc = s.clc ∧
    (doffYield r s).cmn = s.cmn ∧
    (doffYield r s).stu = s.stu ∧
    (doffYield r s).hpt = s.hpt ∧
    (doffYield r s).atc = s.atc ∧
    (doffYield r s).pins = s.pins ∧
    (doffYield r s).pending = s.pending ∧
    (doffYield r s).flc.clock = s.flc.clock ∧
    (doffYield r s).flc.link = s.flc.link ∧
    (doffYield r s).flc.peers = s.flc.peers ∧
    (doffYield r s).conf = s.conf ∧
    (doffYield r s).n = s.n := by
  simp [doffYield]

@[simp] theorem recountD_keeps (s : State) :
    (recountD s).cfg = s.cfg ∧
    (recountD s).ssc = s.ssc ∧
    (recountD s).spt = s.spt ∧
    (recountD s).pcn = s.pcn ∧
    (recountD s).bdp = s.bdp ∧
    (recountD s).clc = s.clc ∧
    (recountD s).cmn = s.cmn ∧
    (recountD s).stu = s.stu ∧
    (recountD s).hpt = s.hpt ∧
    (recountD s).atc = s.atc ∧
    (recountD s).pins = s.pins ∧
    (recountD s).pending = s.pending ∧
    (recountD s).flc.clock = s.flc.clock ∧
    (recountD s).flc.link = s.flc.link ∧
    (recountD s).flc.peers = s.flc.peers ∧
    (recountD s).conf = s.conf ∧
    (recountD s).n = s.n := by
  unfold recountD
  repeat' first
    | (solve | simp)
    | split

@[simp] theorem abandonDoffClaim_keeps (s : State) :
    (abandonDoffClaim s).cfg = s.cfg ∧
    (abandonDoffClaim s).ssc = s.ssc ∧
    (abandonDoffClaim s).spt = s.spt ∧
    (abandonDoffClaim s).pcn = s.pcn ∧
    (abandonDoffClaim s).bdp = s.bdp ∧
    (abandonDoffClaim s).clc = s.clc ∧
    (abandonDoffClaim s).cmn = s.cmn ∧
    (abandonDoffClaim s).stu = s.stu ∧
    (abandonDoffClaim s).hpt = s.hpt ∧
    (abandonDoffClaim s).atc = s.atc ∧
    (abandonDoffClaim s).pins = s.pins ∧
    (abandonDoffClaim s).pending = s.pending ∧
    (abandonDoffClaim s).flc.clock = s.flc.clock ∧
    (abandonDoffClaim s).flc.link = s.flc.link ∧
    (abandonDoffClaim s).flc.peers = s.flc.peers ∧
    (abandonDoffClaim s).conf = s.conf ∧
    (abandonDoffClaim s).n = s.n := by
  unfold abandonDoffClaim
  dsimp only
  repeat' first
    | (solve | simp)
    | split

@[simp] theorem abandonTrainClaim_keeps (s : State) :
    (abandonTrainClaim s).cfg = s.cfg ∧
    (abandonTrainClaim s).ssc = s.ssc ∧
    (abandonTrainClaim s).spt = s.spt ∧
    (abandonTrainClaim s).pcn = s.pcn ∧
    (abandonTrainClaim s).bdp = s.bdp ∧
    (abandonTrainClaim s).clc = s.clc ∧
    (abandonTrainClaim s).flc = s.flc ∧
    (abandonTrainClaim s).dsq = s.dsq ∧
    (abandonTrainClaim s).stu = s.stu ∧
    (abandonTrainClaim s).hpt = s.hpt ∧
    (abandonTrainClaim s).atc = s.atc ∧
    (abandonTrainClaim s).pins = s.pins ∧
    (abandonTrainClaim s).free = s.free ∧
    (abandonTrainClaim s).pending = s.pending ∧
    (abandonTrainClaim s).conf = s.conf ∧
    (abandonTrainClaim s).n = s.n := by
  unfold abandonTrainClaim
  dsimp only
  repeat' first
    | (solve | simp)
    | split

@[simp] theorem yieldTrainClaim_keeps (s : State) :
    (yieldTrainClaim s).cfg = s.cfg ∧
    (yieldTrainClaim s).ssc = s.ssc ∧
    (yieldTrainClaim s).spt = s.spt ∧
    (yieldTrainClaim s).pcn = s.pcn ∧
    (yieldTrainClaim s).bdp = s.bdp ∧
    (yieldTrainClaim s).clc = s.clc ∧
    (yieldTrainClaim s).dsq = s.dsq ∧
    (yieldTrainClaim s).stu = s.stu ∧
    (yieldTrainClaim s).hpt = s.hpt ∧
    (yieldTrainClaim s).atc = s.atc ∧
    (yieldTrainClaim s).pins = s.pins ∧
    (yieldTrainClaim s).pending = s.pending ∧
    (yieldTrainClaim s).flc.clock = s.flc.clock ∧
    (yieldTrainClaim s).flc.link = s.flc.link ∧
    (yieldTrainClaim s).flc.peers = s.flc.peers ∧
    (yieldTrainClaim s).conf = s.conf ∧
    (yieldTrainClaim s).n = s.n := by
  unfold yieldTrainClaim
  dsimp only
  repeat' first
    | (solve | simp)
    | split

@[simp] theorem trainStartTest_keeps (s : State) :
    (trainStartTest s).cfg = s.cfg ∧
    (trainStartTest s).ssc = s.ssc ∧
    (trainStartTest s).spt = s.spt ∧
    (trainStartTest s).pcn = s.pcn ∧
    (trainStartTest s).bdp = s.bdp ∧
    (trainStartTest s).clc = s.clc ∧
    (trainStartTest s).dsq = s.dsq ∧
    (trainStartTest s).stu = s.stu ∧
    (trainStartTest s).hpt = s.hpt ∧
    (trainStartTest s).atc = s.atc ∧
    (trainStartTest s).pins = s.pins ∧
    (trainStartTest s).pending = s.pending ∧
    (trainStartTest s).flc.clock = s.flc.clock ∧
    (trainStartTest s).flc.link = s.flc.link ∧
    (trainStartTest s).flc.peers = s.flc.peers ∧
    (trainStartTest s).conf = s.conf ∧
    (trainStartTest s).n = s.n := by
  unfold trainStartTest
  repeat' first
    | (solve | simp)
    | split

@[simp] theorem startTrainClaim_keeps (train group urgency : Nat) (s : State) :
    (startTrainClaim train group urgency s).cfg = s.cfg ∧
    (startTrainClaim train group urgency s).ssc = s.ssc ∧
    (startTrainClaim train group urgency s).spt = s.spt ∧
    (startTrainClaim train group urgency s).pcn = s.pcn ∧
    (startTrainClaim train group urgency s).bdp = s.bdp ∧
    (startTrainClaim train group urgency s).clc = s.clc ∧
    (startTrainClaim train group urgency s).dsq = s.dsq ∧
    (startTrainClaim train group urgency s).stu = s.stu ∧
    (startTrainClaim train group urgency s).hpt = s.hpt ∧
    (startTrainClaim train group urgency s).atc = s.atc ∧
    (startTrainClaim train group urgency s).pins = s.pins ∧
    (startTrainClaim train group urgency s).pending = s.pending ∧
    (startTrainClaim train group urgency s).flc.clock = s.flc.clock ∧
    (startTrainClaim train group urgency s).flc.link = s.flc.link ∧
    (startTrainClaim train group urgency s).flc.peers = s.flc.peers ∧
    (startTrainClaim train group urgency s).conf = s.conf ∧
    (startTrainClaim train group urgency s).n = s.n := by
  simp [startTrainClaim]

@[simp] theorem trainClaimHeard_keeps (sender train urgency : Nat) (s : State) :
    (trainClaimHeard sender train urgency s).cfg = s.cfg ∧
    (trainClaimHeard sender train urgency s).ssc = s.ssc ∧
    (trainClaimHeard sender train urgency s).spt = s.spt ∧
    (trainClaimHeard sender train urgency s).pcn = s.pcn ∧
    (trainClaimHeard sender train urgency s).bdp = s.bdp ∧
    (trainClaimHeard sender train urgency s).clc = s.clc ∧
    (trainClaimHeard sender train urgency s).dsq = s.dsq ∧
    (trainClaimHeard sender train urgency s).stu = s.stu ∧
    (trainClaimHeard sender train urgency s).hpt = s.hpt ∧
    (trainClaimHeard sender train urgency s).atc = s.atc ∧
    (trainClaimHeard sender train urgency s).pins = s.pins ∧
    (trainClaimHeard sender train urgency s).pending = s.pending ∧
    (trainClaimHeard sender train urgency s).flc.clock = s.flc.clock ∧
    (trainClaimHeard sender train urgency s).flc.link = s.flc.link ∧
    (trainClaimHeard sender train urgency s).flc.peers = s.flc.peers ∧
    (trainClaimHeard sender train urgency s).conf = s.conf ∧
    (trainClaimHeard sender train urgency s).n = s.n := by
  unfold trainClaimHeard
  repeat' first
    | (solve | simp)
    | split

@[simp] theorem trainGone_keeps (train : Nat) (s : State) :
    (trainGone train s).cfg = s.cfg ∧
    (trainGone train s).ssc = s.ssc ∧
    (trainGone train s).spt = s.spt ∧
    (trainGone train s).pcn = s.pcn ∧
    (trainGone train s).bdp = s.bdp ∧
    (trainGone train s).clc = s.clc ∧
    (trainGone train s).flc = s.flc ∧
    (trainGone train s).dsq = s.dsq ∧
    (trainGone train s).stu = s.stu ∧
    (trainGone train s).hpt = s.hpt ∧
    (trainGone train s).atc = s.atc ∧
    (trainGone train s).pins = s.pins ∧
    (trainGone train s).free = s.free ∧
    (trainGone train s).pending = s.pending ∧
    (trainGone train s).conf = s.conf ∧
    (trainGone train s).n = s.n := by
  unfold trainGone
  repeat' first
    | (solve | simp)
    | split

@[simp] theorem withdrawTrainClaim_keeps (s : State) :
    (withdrawTrainClaim s).cfg = s.cfg ∧
    (withdrawTrainClaim s).ssc = s.ssc ∧
    (withdrawTrainClaim s).spt = s.spt ∧
    (withdrawTrainClaim s).pcn = s.pcn ∧
    (withdrawTrainClaim s).bdp = s.bdp ∧
    (withdrawTrainClaim s).clc = s.clc ∧
    (withdrawTrainClaim s).cmn = s.cmn ∧
    (withdrawTrainClaim s).flc = s.flc ∧
    (withdrawTrainClaim s).dsq = s.dsq ∧
    (withdrawTrainClaim s).stu = s.stu ∧
    (withdrawTrainClaim s).hpt = s.hpt ∧
    (withdrawTrainClaim s).atc = s.atc ∧
    (withdrawTrainClaim s).pins = s.pins ∧
    (withdrawTrainClaim s).free = s.free ∧
    (withdrawTrainClaim s).pending = s.pending ∧
    (withdrawTrainClaim s).conf = s.conf ∧
    (withdrawTrainClaim s).n = s.n := by
  unfold withdrawTrainClaim
  dsimp only
  repeat' first
    | (solve | simp)
    | split

@[simp] theorem abandonOwnClaims_keeps (s : State) :
    (abandonOwnClaims s).cfg = s.cfg ∧
    (abandonOwnClaims s).ssc = s.ssc ∧
    (abandonOwnClaims s).spt = s.spt ∧
    (abandonOwnClaims s).pcn = s.pcn ∧
    (abandonOwnClaims s).bdp = s.bdp ∧
    (abandonOwnClaims s).clc = s.clc ∧
    (abandonOwnClaims s).stu = s.stu ∧
    (abandonOwnClaims s).hpt = s.hpt ∧
    (abandonOwnClaims s).atc = s.atc ∧
    (abandonOwnClaims s).pins = s.pins ∧
    (abandonOwnClaims s).pending = s.pending ∧
    (abandonOwnClaims s).flc.clock = s.flc.clock ∧
    (abandonOwnClaims s).flc.link = s.flc.link ∧
    (abandonOwnClaims s).flc.peers = s.flc.peers ∧
    (abandonOwnClaims s).conf = s.conf ∧
    (abandonOwnClaims s).n = s.n := by
  simp [abandonOwnClaims]

@[simp] theorem trainWindowExpiry_keeps (s : State) :
    (trainWindowExpiry s).cfg = s.cfg ∧
    (trainWindowExpiry s).ssc = s.ssc ∧
    (trainWindowExpiry s).spt = s.spt ∧
    (trainWindowExpiry s).pcn = s.pcn ∧
    (trainWindowExpiry s).bdp = s.bdp ∧
    (trainWindowExpiry s).clc = s.clc ∧
    (trainWindowExpiry s).dsq = s.dsq ∧
    (trainWindowExpiry s).stu = s.stu ∧
    (trainWindowExpiry s).hpt = s.hpt ∧
    (trainWindowExpiry s).atc = s.atc ∧
    (trainWindowExpiry s).pins = s.pins ∧
    (trainWindowExpiry s).pending = s.pending ∧
    (trainWindowExpiry s).flc.clock = s.flc.clock ∧
    (trainWindowExpiry s).flc.link = s.flc.link ∧
    (trainWindowExpiry s).flc.peers = s.flc.peers ∧
    (trainWindowExpiry s).conf = s.conf ∧
    (trainWindowExpiry s).n = s.n := by
  unfold trainWindowExpiry
  dsimp only
  repeat' first
    | (solve | simp)
    | split

@[simp] theorem holdOffExpiry_keeps (s : State) :
    (holdOffExpiry s).cfg = s.cfg ∧
    (holdOffExpiry s).ssc = s.ssc ∧
    (holdOffExpiry s).spt = s.spt ∧
    (holdOffExpiry s).pcn = s.pcn ∧
    (holdOffExpiry s).bdp = s.bdp ∧
    (holdOffExpiry s).clc = s.clc ∧
    (holdOffExpiry s).cmn = s.cmn ∧
    (holdOffExpiry s).stu = s.stu ∧
    (holdOffExpiry s).hpt = s.hpt ∧
    (holdOffExpiry s).atc = s.atc ∧
    (holdOffExpiry s).pins = s.pins ∧
    (holdOffExpiry s).pending = s.pending ∧
    (holdOffExpiry s).flc.clock = s.flc.clock ∧
    (holdOffExpiry s).flc.link = s.flc.link ∧
    (holdOffExpiry s).flc.peers = s.flc.peers ∧
    (holdOffExpiry s).conf = s.conf ∧
    (holdOffExpiry s).n = s.n := by
  unfold holdOffExpiry
  dsimp only
  repeat' first
    | (solve | simp)
    | split

end Sys2Proof.Machine
end

