-- ==== Sys2Proof/Laws/FramesTable.lean ====
section
/-! SUPPORT. What each shared operation leaves unchanged: the break lists, the production figures, the spindle table and the carriages. -/

namespace Sys2Proof.Machine

open Sys2Proof.Config

@[simp] theorem foldl_modSpindle_keeps {α : Type} (sd : Side) (g : α → Nat)
    (f : α → Spindle → Spindle) (l : List α) (s : State) :
    (l.foldl (fun t a => t.modSpindle sd (g a) (f a)) s).cfg = s.cfg ∧
    (l.foldl (fun t a => t.modSpindle sd (g a) (f a)) s).ssc = s.ssc ∧
    (l.foldl (fun t a => t.modSpindle sd (g a) (f a)) s).pcn = s.pcn ∧
    (l.foldl (fun t a => t.modSpindle sd (g a) (f a)) s).bdp = s.bdp ∧
    (l.foldl (fun t a => t.modSpindle sd (g a) (f a)) s).clc = s.clc ∧
    (l.foldl (fun t a => t.modSpindle sd (g a) (f a)) s).cmn = s.cmn ∧
    (l.foldl (fun t a => t.modSpindle sd (g a) (f a)) s).flc = s.flc ∧
    (l.foldl (fun t a => t.modSpindle sd (g a) (f a)) s).bcu = s.bcu ∧
    (l.foldl (fun t a => t.modSpindle sd (g a) (f a)) s).dsq = s.dsq ∧
    (l.foldl (fun t a => t.modSpindle sd (g a) (f a)) s).stu = s.stu ∧
    (l.foldl (fun t a => t.modSpindle sd (g a) (f a)) s).hpt = s.hpt ∧
    (l.foldl (fun t a => t.modSpindle sd (g a) (f a)) s).atc = s.atc ∧
    (l.foldl (fun t a => t.modSpindle sd (g a) (f a)) s).pins = s.pins ∧
    (l.foldl (fun t a => t.modSpindle sd (g a) (f a)) s).free = s.free ∧
    (l.foldl (fun t a => t.modSpindle sd (g a) (f a)) s).pending = s.pending ∧
    (l.foldl (fun t a => t.modSpindle sd (g a) (f a)) s).conf = s.conf ∧
    (l.foldl (fun t a => t.modSpindle sd (g a) (f a)) s).n = s.n := by
  induction l generalizing s with
  | nil => simp
  | cons a l ih => simp [ih]

@[simp] theorem recomputeWake_keeps (sd : Side) (s : State) :
    (recomputeWake sd s).cfg = s.cfg ∧
    (recomputeWake sd s).ssc = s.ssc ∧
    (recomputeWake sd s).spt = s.spt ∧
    (recomputeWake sd s).pcn = s.pcn ∧
    (recomputeWake sd s).clc = s.clc ∧
    (recomputeWake sd s).cmn = s.cmn ∧
    (recomputeWake sd s).flc = s.flc ∧
    (recomputeWake sd s).bcu = s.bcu ∧
    (recomputeWake sd s).dsq = s.dsq ∧
    (recomputeWake sd s).stu = s.stu ∧
    (recomputeWake sd s).hpt = s.hpt ∧
    (recomputeWake sd s).atc = s.atc ∧
    (recomputeWake sd s).pins = s.pins ∧
    (recomputeWake sd s).free = s.free ∧
    (recomputeWake sd s).pending = s.pending ∧
    (recomputeWake sd s).conf = s.conf ∧
    (recomputeWake sd s).n = s.n := by
  simp [recomputeWake]

@[simp] theorem countBdp_keeps (sd : Side) (f : BdpCounts → BdpCounts) (s : State) :
    (countBdp sd f s).cfg = s.cfg ∧
    (countBdp sd f s).ssc = s.ssc ∧
    (countBdp sd f s).spt = s.spt ∧
    (countBdp sd f s).pcn = s.pcn ∧
    (countBdp sd f s).clc = s.clc ∧
    (countBdp sd f s).cmn = s.cmn ∧
    (countBdp sd f s).flc = s.flc ∧
    (countBdp sd f s).bcu = s.bcu ∧
    (countBdp sd f s).dsq = s.dsq ∧
    (countBdp sd f s).stu = s.stu ∧
    (countBdp sd f s).hpt = s.hpt ∧
    (countBdp sd f s).atc = s.atc ∧
    (countBdp sd f s).pins = s.pins ∧
    (countBdp sd f s).free = s.free ∧
    (countBdp sd f s).pending = s.pending ∧
    (countBdp sd f s).conf = s.conf ∧
    (countBdp sd f s).n = s.n := by
  simp [countBdp]

@[simp] theorem setListed_keeps (sd : Side) (pos : Nat) (x : Bool) (s : State) :
    (setListed sd pos x s).cfg = s.cfg ∧
    (setListed sd pos x s).ssc = s.ssc ∧
    (setListed sd pos x s).pcn = s.pcn ∧
    (setListed sd pos x s).bdp = s.bdp ∧
    (setListed sd pos x s).clc = s.clc ∧
    (setListed sd pos x s).cmn = s.cmn ∧
    (setListed sd pos x s).flc = s.flc ∧
    (setListed sd pos x s).bcu = s.bcu ∧
    (setListed sd pos x s).dsq = s.dsq ∧
    (setListed sd pos x s).stu = s.stu ∧
    (setListed sd pos x s).hpt = s.hpt ∧
    (setListed sd pos x s).atc = s.atc ∧
    (setListed sd pos x s).pins = s.pins ∧
    (setListed sd pos x s).free = s.free ∧
    (setListed sd pos x s).pending = s.pending ∧
    (setListed sd pos x s).conf = s.conf ∧
    (setListed sd pos x s).n = s.n := by
  simp [setListed]

@[simp] theorem listEntry_keeps (sd : Side) (pos : Nat) (nb : Option Nat) (s : State) :
    (listEntry sd pos nb s).cfg = s.cfg ∧
    (listEntry sd pos nb s).ssc = s.ssc ∧
    (listEntry sd pos nb s).pcn = s.pcn ∧
    (listEntry sd pos nb s).clc = s.clc ∧
    (listEntry sd pos nb s).cmn = s.cmn ∧
    (listEntry sd pos nb s).flc = s.flc ∧
    (listEntry sd pos nb s).bcu = s.bcu ∧
    (listEntry sd pos nb s).dsq = s.dsq ∧
    (listEntry sd pos nb s).stu = s.stu ∧
    (listEntry sd pos nb s).hpt = s.hpt ∧
    (listEntry sd pos nb s).atc = s.atc ∧
    (listEntry sd pos nb s).pins = s.pins ∧
    (listEntry sd pos nb s).free = s.free ∧
    (listEntry sd pos nb s).pending = s.pending ∧
    (listEntry sd pos nb s).conf = s.conf ∧
    (listEntry sd pos nb s).n = s.n := by
  simp [listEntry]

@[simp] theorem unlistEntry_keeps (sd : Side) (pos : Nat) (s : State) :
    (unlistEntry sd pos s).cfg = s.cfg ∧
    (unlistEntry sd pos s).ssc = s.ssc ∧
    (unlistEntry sd pos s).spt = s.spt ∧
    (unlistEntry sd pos s).pcn = s.pcn ∧
    (unlistEntry sd pos s).clc = s.clc ∧
    (unlistEntry sd pos s).cmn = s.cmn ∧
    (unlistEntry sd pos s).flc = s.flc ∧
    (unlistEntry sd pos s).bcu = s.bcu ∧
    (unlistEntry sd pos s).dsq = s.dsq ∧
    (unlistEntry sd pos s).stu = s.stu ∧
    (unlistEntry sd pos s).hpt = s.hpt ∧
    (unlistEntry sd pos s).atc = s.atc ∧
    (unlistEntry sd pos s).pins = s.pins ∧
    (unlistEntry sd pos s).free = s.free ∧
    (unlistEntry sd pos s).pending = s.pending ∧
    (unlistEntry sd pos s).conf = s.conf ∧
    (unlistEntry sd pos s).n = s.n := by
  simp [unlistEntry]

@[simp] theorem refillLoop_keeps (sd : Side) (dir : Dir) (fuel start : Nat) (s : State) :
    (refillLoop sd dir fuel start s).cfg = s.cfg ∧
    (refillLoop sd dir fuel start s).ssc = s.ssc ∧
    (refillLoop sd dir fuel start s).pcn = s.pcn ∧
    (refillLoop sd dir fuel start s).clc = s.clc ∧
    (refillLoop sd dir fuel start s).cmn = s.cmn ∧
    (refillLoop sd dir fuel start s).flc = s.flc ∧
    (refillLoop sd dir fuel start s).bcu = s.bcu ∧
    (refillLoop sd dir fuel start s).dsq = s.dsq ∧
    (refillLoop sd dir fuel start s).stu = s.stu ∧
    (refillLoop sd dir fuel start s).hpt = s.hpt ∧
    (refillLoop sd dir fuel start s).atc = s.atc ∧
    (refillLoop sd dir fuel start s).pins = s.pins ∧
    (refillLoop sd dir fuel start s).free = s.free ∧
    (refillLoop sd dir fuel start s).pending = s.pending ∧
    (refillLoop sd dir fuel start s).conf = s.conf ∧
    (refillLoop sd dir fuel start s).n = s.n := by
  induction fuel generalizing start s with
  | zero => simp [refillLoop]
  | succ fuel ih =>
    unfold refillLoop
    split
    · split
      · simp [ih]
      · simp
    · simp

@[simp] theorem refill_keeps (sd : Side) (s : State) :
    (refill sd s).cfg = s.cfg ∧
    (refill sd s).ssc = s.ssc ∧
    (refill sd s).pcn = s.pcn ∧
    (refill sd s).clc = s.clc ∧
    (refill sd s).cmn = s.cmn ∧
    (refill sd s).flc = s.flc ∧
    (refill sd s).bcu = s.bcu ∧
    (refill sd s).dsq = s.dsq ∧
    (refill sd s).stu = s.stu ∧
    (refill sd s).hpt = s.hpt ∧
    (refill sd s).atc = s.atc ∧
    (refill sd s).pins = s.pins ∧
    (refill sd s).free = s.free ∧
    (refill sd s).pending = s.pending ∧
    (refill sd s).conf = s.conf ∧
    (refill sd s).n = s.n := by
  simp [refill]

@[simp] theorem dispatch_keeps (sd : Side) (ch : Choice) (s : State) :
    (dispatch sd ch s).cfg = s.cfg ∧
    (dispatch sd ch s).ssc = s.ssc ∧
    (dispatch sd ch s).pcn = s.pcn ∧
    (dispatch sd ch s).cmn = s.cmn ∧
    (dispatch sd ch s).flc = s.flc ∧
    (dispatch sd ch s).bcu = s.bcu ∧
    (dispatch sd ch s).dsq = s.dsq ∧
    (dispatch sd ch s).stu = s.stu ∧
    (dispatch sd ch s).hpt = s.hpt ∧
    (dispatch sd ch s).atc = s.atc ∧
    (dispatch sd ch s).pins = s.pins ∧
    (dispatch sd ch s).free = s.free ∧
    (dispatch sd ch s).pending = s.pending ∧
    (dispatch sd ch s).conf = s.conf ∧
    (dispatch sd ch s).n = s.n := by
  unfold dispatch
  dsimp only
  repeat' first
    | (solve | simp)
    | split

@[simp] theorem examine_keeps (sd : Side) (s : State) :
    (examine sd s).cfg = s.cfg ∧
    (examine sd s).ssc = s.ssc ∧
    (examine sd s).pcn = s.pcn ∧
    (examine sd s).cmn = s.cmn ∧
    (examine sd s).flc = s.flc ∧
    (examine sd s).bcu = s.bcu ∧
    (examine sd s).dsq = s.dsq ∧
    (examine sd s).stu = s.stu ∧
    (examine sd s).hpt = s.hpt ∧
    (examine sd s).atc = s.atc ∧
    (examine sd s).pins = s.pins ∧
    (examine sd s).free = s.free ∧
    (examine sd s).pending = s.pending ∧
    (examine sd s).conf = s.conf ∧
    (examine sd s).n = s.n := by
  unfold examine
  repeat' first
    | (solve | simp)
    | split

@[simp] theorem examineBoth_keeps (s : State) :
    (examineBoth s).cfg = s.cfg ∧
    (examineBoth s).ssc = s.ssc ∧
    (examineBoth s).pcn = s.pcn ∧
    (examineBoth s).cmn = s.cmn ∧
    (examineBoth s).flc = s.flc ∧
    (examineBoth s).bcu = s.bcu ∧
    (examineBoth s).dsq = s.dsq ∧
    (examineBoth s).stu = s.stu ∧
    (examineBoth s).hpt = s.hpt ∧
    (examineBoth s).atc = s.atc ∧
    (examineBoth s).pins = s.pins ∧
    (examineBoth s).free = s.free ∧
    (examineBoth s).pending = s.pending ∧
    (examineBoth s).conf = s.conf ∧
    (examineBoth s).n = s.n := by
  simp [examineBoth]

@[simp] theorem listingRequest_keeps (sd : Side) (pos : Nat) (nb : Option Nat) (s : State) :
    (listingRequest sd pos nb s).cfg = s.cfg ∧
    (listingRequest sd pos nb s).ssc = s.ssc ∧
    (listingRequest sd pos nb s).pcn = s.pcn ∧
    (listingRequest sd pos nb s).cmn = s.cmn ∧
    (listingRequest sd pos nb s).flc = s.flc ∧
    (listingRequest sd pos nb s).bcu = s.bcu ∧
    (listingRequest sd pos nb s).dsq = s.dsq ∧
    (listingRequest sd pos nb s).stu = s.stu ∧
    (listingRequest sd pos nb s).hpt = s.hpt ∧
    (listingRequest sd pos nb s).pins = s.pins ∧
    (listingRequest sd pos nb s).free = s.free ∧
    (listingRequest sd pos nb s).pending = s.pending ∧
    (listingRequest sd pos nb s).conf = s.conf ∧
    (listingRequest sd pos nb s).n = s.n := by
  unfold listingRequest
  dsimp only
  repeat' first
    | (solve | simp)
    | split

@[simp] theorem removalNotice_keeps (sd : Side) (pos : Nat) (s : State) :
    (removalNotice sd pos s).cfg = s.cfg ∧
    (removalNotice sd pos s).ssc = s.ssc ∧
    (removalNotice sd pos s).pcn = s.pcn ∧
    (removalNotice sd pos s).cmn = s.cmn ∧
    (removalNotice sd pos s).flc = s.flc ∧
    (removalNotice sd pos s).bcu = s.bcu ∧
    (removalNotice sd pos s).dsq = s.dsq ∧
    (removalNotice sd pos s).stu = s.stu ∧
    (removalNotice sd pos s).hpt = s.hpt ∧
    (removalNotice sd pos s).atc = s.atc ∧
    (removalNotice sd pos s).pins = s.pins ∧
    (removalNotice sd pos s).free = s.free ∧
    (removalNotice sd pos s).pending = s.pending ∧
    (removalNotice sd pos s).conf = s.conf ∧
    (removalNotice sd pos s).n = s.n := by
  unfold removalNotice
  dsimp only
  repeat' first
    | (solve | simp)
    | split

@[simp] theorem emptyLists_keeps (s : State) :
    (emptyLists s).cfg = s.cfg ∧
    (emptyLists s).ssc = s.ssc ∧
    (emptyLists s).spt = s.spt ∧
    (emptyLists s).pcn = s.pcn ∧
    (emptyLists s).clc = s.clc ∧
    (emptyLists s).cmn = s.cmn ∧
    (emptyLists s).flc = s.flc ∧
    (emptyLists s).bcu = s.bcu ∧
    (emptyLists s).dsq = s.dsq ∧
    (emptyLists s).stu = s.stu ∧
    (emptyLists s).hpt = s.hpt ∧
    (emptyLists s).atc = s.atc ∧
    (emptyLists s).pins = s.pins ∧
    (emptyLists s).free = s.free ∧
    (emptyLists s).pending = s.pending ∧
    (emptyLists s).conf = s.conf ∧
    (emptyLists s).n = s.n := by
  simp [emptyLists]

@[simp] theorem wakeReached_keeps (sd : Side) (s : State) :
    (wakeReached sd s).cfg = s.cfg ∧
    (wakeReached sd s).ssc = s.ssc ∧
    (wakeReached sd s).pcn = s.pcn ∧
    (wakeReached sd s).cmn = s.cmn ∧
    (wakeReached sd s).flc = s.flc ∧
    (wakeReached sd s).bcu = s.bcu ∧
    (wakeReached sd s).dsq = s.dsq ∧
    (wakeReached sd s).stu = s.stu ∧
    (wakeReached sd s).hpt = s.hpt ∧
    (wakeReached sd s).atc = s.atc ∧
    (wakeReached sd s).pins = s.pins ∧
    (wakeReached sd s).free = s.free ∧
    (wakeReached sd s).pending = s.pending ∧
    (wakeReached sd s).conf = s.conf ∧
    (wakeReached sd s).n = s.n := by
  unfold wakeReached
  repeat' first
    | (solve | simp)
    | split

@[simp] theorem countAcc_keeps (f : Accum → Accum) (s : State) :
    (countAcc f s).cfg = s.cfg ∧
    (countAcc f s).ssc = s.ssc ∧
    (countAcc f s).spt = s.spt ∧
    (countAcc f s).bdp = s.bdp ∧
    (countAcc f s).clc = s.clc ∧
    (countAcc f s).cmn = s.cmn ∧
    (countAcc f s).flc = s.flc ∧
    (countAcc f s).bcu = s.bcu ∧
    (countAcc f s).dsq = s.dsq ∧
    (countAcc f s).stu = s.stu ∧
    (countAcc f s).hpt = s.hpt ∧
    (countAcc f s).atc = s.atc ∧
    (countAcc f s).pins = s.pins ∧
    (countAcc f s).free = s.free ∧
    (countAcc f s).pending = s.pending ∧
    (countAcc f s).conf = s.conf ∧
    (countAcc f s).n = s.n := by
  simp [countAcc]

@[simp] theorem addDelta_keeps (good slack breaks pieced : Nat) (s : State) :
    (addDelta good slack breaks pieced s).cfg = s.cfg ∧
    (addDelta good slack breaks pieced s).ssc = s.ssc ∧
    (addDelta good slack breaks pieced s).spt = s.spt ∧
    (addDelta good slack breaks pieced s).bdp = s.bdp ∧
    (addDelta good slack breaks pieced s).clc = s.clc ∧
    (addDelta good slack breaks pieced s).cmn = s.cmn ∧
    (addDelta good slack breaks pieced s).flc = s.flc ∧
    (addDelta good slack breaks pieced s).bcu = s.bcu ∧
    (addDelta good slack breaks pieced s).dsq = s.dsq ∧
    (addDelta good slack breaks pieced s).stu = s.stu ∧
    (addDelta good slack breaks pieced s).hpt = s.hpt ∧
    (addDelta good slack breaks pieced s).atc = s.atc ∧
    (addDelta good slack breaks pieced s).pins = s.pins ∧
    (addDelta good slack breaks pieced s).free = s.free ∧
    (addDelta good slack breaks pieced s).pending = s.pending ∧
    (addDelta good slack breaks pieced s).conf = s.conf ∧
    (addDelta good slack breaks pieced s).n = s.n := by
  simp [addDelta]

@[simp] theorem reportBreak_keeps (s : State) :
    (reportBreak s).cfg = s.cfg ∧
    (reportBreak s).ssc = s.ssc ∧
    (reportBreak s).spt = s.spt ∧
    (reportBreak s).bdp = s.bdp ∧
    (reportBreak s).clc = s.clc ∧
    (reportBreak s).cmn = s.cmn ∧
    (reportBreak s).flc = s.flc ∧
    (reportBreak s).bcu = s.bcu ∧
    (reportBreak s).dsq = s.dsq ∧
    (reportBreak s).stu = s.stu ∧
    (reportBreak s).hpt = s.hpt ∧
    (reportBreak s).atc = s.atc ∧
    (reportBreak s).pins = s.pins ∧
    (reportBreak s).free = s.free ∧
    (reportBreak s).pending = s.pending ∧
    (reportBreak s).conf = s.conf ∧
    (reportBreak s).n = s.n := by
  simp [reportBreak]

@[simp] theorem reportCarriagePieced_keeps (s : State) :
    (reportCarriagePieced s).cfg = s.cfg ∧
    (reportCarriagePieced s).ssc = s.ssc ∧
    (reportCarriagePieced s).spt = s.spt ∧
    (reportCarriagePieced s).bdp = s.bdp ∧
    (reportCarriagePieced s).clc = s.clc ∧
    (reportCarriagePieced s).cmn = s.cmn ∧
    (reportCarriagePieced s).flc = s.flc ∧
    (reportCarriagePieced s).bcu = s.bcu ∧
    (reportCarriagePieced s).dsq = s.dsq ∧
    (reportCarriagePieced s).stu = s.stu ∧
    (reportCarriagePieced s).hpt = s.hpt ∧
    (reportCarriagePieced s).atc = s.atc ∧
    (reportCarriagePieced s).pins = s.pins ∧
    (reportCarriagePieced s).free = s.free ∧
    (reportCarriagePieced s).pending = s.pending ∧
    (reportCarriagePieced s).conf = s.conf ∧
    (reportCarriagePieced s).n = s.n := by
  simp [reportCarriagePieced]

@[simp] theorem reportTenterPieced_keeps (s : State) :
    (reportTenterPieced s).cfg = s.cfg ∧
    (reportTenterPieced s).ssc = s.ssc ∧
    (reportTenterPieced s).spt = s.spt ∧
    (reportTenterPieced s).bdp = s.bdp ∧
    (reportTenterPieced s).clc = s.clc ∧
    (reportTenterPieced s).cmn = s.cmn ∧
    (reportTenterPieced s).flc = s.flc ∧
    (reportTenterPieced s).bcu = s.bcu ∧
    (reportTenterPieced s).dsq = s.dsq ∧
    (reportTenterPieced s).stu = s.stu ∧
    (reportTenterPieced s).hpt = s.hpt ∧
    (reportTenterPieced s).atc = s.atc ∧
    (reportTenterPieced s).pins = s.pins ∧
    (reportTenterPieced s).free = s.free ∧
    (reportTenterPieced s).pending = s.pending ∧
    (reportTenterPieced s).conf = s.conf ∧
    (reportTenterPieced s).n = s.n := by
  simp [reportTenterPieced]

@[simp] theorem reportFailure_keeps (falseSuccess : Bool) (s : State) :
    (reportFailure falseSuccess s).cfg = s.cfg ∧
    (reportFailure falseSuccess s).ssc = s.ssc ∧
    (reportFailure falseSuccess s).spt = s.spt ∧
    (reportFailure falseSuccess s).bdp = s.bdp ∧
    (reportFailure falseSuccess s).clc = s.clc ∧
    (reportFailure falseSuccess s).cmn = s.cmn ∧
    (reportFailure falseSuccess s).flc = s.flc ∧
    (reportFailure falseSuccess s).bcu = s.bcu ∧
    (reportFailure falseSuccess s).dsq = s.dsq ∧
    (reportFailure falseSuccess s).stu = s.stu ∧
    (reportFailure falseSuccess s).hpt = s.hpt ∧
    (reportFailure falseSuccess s).atc = s.atc ∧
    (reportFailure falseSuccess s).pins = s.pins ∧
    (reportFailure falseSuccess s).free = s.free ∧
    (reportFailure falseSuccess s).pending = s.pending ∧
    (reportFailure falseSuccess s).conf = s.conf ∧
    (reportFailure falseSuccess s).n = s.n := by
  simp [reportFailure]

@[simp] theorem reportBlocked_keeps (s : State) :
    (reportBlocked s).cfg = s.cfg ∧
    (reportBlocked s).ssc = s.ssc ∧
    (reportBlocked s).spt = s.spt ∧
    (reportBlocked s).bdp = s.bdp ∧
    (reportBlocked s).clc = s.clc ∧
    (reportBlocked s).cmn = s.cmn ∧
    (reportBlocked s).flc = s.flc ∧
    (reportBlocked s).bcu = s.bcu ∧
    (reportBlocked s).dsq = s.dsq ∧
    (reportBlocked s).stu = s.stu ∧
    (reportBlocked s).hpt = s.hpt ∧
    (reportBlocked s).atc = s.atc ∧
    (reportBlocked s).pins = s.pins ∧
    (reportBlocked s).free = s.free ∧
    (reportBlocked s).pending = s.pending ∧
    (reportBlocked s).conf = s.conf ∧
    (reportBlocked s).n = s.n := by
  simp [reportBlocked]

@[simp] theorem reportRestartEndDown_keeps (s : State) :
    (reportRestartEndDown s).cfg = s.cfg ∧
    (reportRestartEndDown s).ssc = s.ssc ∧
    (reportRestartEndDown s).spt = s.spt ∧
    (reportRestartEndDown s).bdp = s.bdp ∧
    (reportRestartEndDown s).clc = s.clc ∧
    (reportRestartEndDown s).cmn = s.cmn ∧
    (reportRestartEndDown s).flc = s.flc ∧
    (reportRestartEndDown s).bcu = s.bcu ∧
    (reportRestartEndDown s).dsq = s.dsq ∧
    (reportRestartEndDown s).stu = s.stu ∧
    (reportRestartEndDown s).hpt = s.hpt ∧
    (reportRestartEndDown s).atc = s.atc ∧
    (reportRestartEndDown s).pins = s.pins ∧
    (reportRestartEndDown s).free = s.free ∧
    (reportRestartEndDown s).pending = s.pending ∧
    (reportRestartEndDown s).conf = s.conf ∧
    (reportRestartEndDown s).n = s.n := by
  simp [reportRestartEndDown]

@[simp] theorem State.mapSection_keeps (s : State) (sd : Side) (section_ : Nat) (f : Spindle → Spindle) :
    (s.mapSection sd section_ f).cfg = s.cfg ∧
    (s.mapSection sd section_ f).ssc = s.ssc ∧
    (s.mapSection sd section_ f).pcn = s.pcn ∧
    (s.mapSection sd section_ f).bdp = s.bdp ∧
    (s.mapSection sd section_ f).clc = s.clc ∧
    (s.mapSection sd section_ f).cmn = s.cmn ∧
    (s.mapSection sd section_ f).flc = s.flc ∧
    (s.mapSection sd section_ f).bcu = s.bcu ∧
    (s.mapSection sd section_ f).dsq = s.dsq ∧
    (s.mapSection sd section_ f).stu = s.stu ∧
    (s.mapSection sd section_ f).hpt = s.hpt ∧
    (s.mapSection sd section_ f).atc = s.atc ∧
    (s.mapSection sd section_ f).pins = s.pins ∧
    (s.mapSection sd section_ f).free = s.free ∧
    (s.mapSection sd section_ f).pending = s.pending ∧
    (s.mapSection sd section_ f).conf = s.conf ∧
    (s.mapSection sd section_ f).n = s.n := by
  simp [State.mapSection]

@[simp] theorem creditSection_keeps (sd : Side) (section_ f : Nat) (s : State) :
    (creditSection sd section_ f s).cfg = s.cfg ∧
    (creditSection sd section_ f s).ssc = s.ssc ∧
    (creditSection sd section_ f s).spt = s.spt ∧
    (creditSection sd section_ f s).bdp = s.bdp ∧
    (creditSection sd section_ f s).clc = s.clc ∧
    (creditSection sd section_ f s).cmn = s.cmn ∧
    (creditSection sd section_ f s).flc = s.flc ∧
    (creditSection sd section_ f s).bcu = s.bcu ∧
    (creditSection sd section_ f s).dsq = s.dsq ∧
    (creditSection sd section_ f s).stu = s.stu ∧
    (creditSection sd section_ f s).hpt = s.hpt ∧
    (creditSection sd section_ f s).atc = s.atc ∧
    (creditSection sd section_ f s).pins = s.pins ∧
    (creditSection sd section_ f s).free = s.free ∧
    (creditSection sd section_ f s).pending = s.pending ∧
    (creditSection sd section_ f s).conf = s.conf ∧
    (creditSection sd section_ f s).n = s.n := by
  simp [creditSection]

@[simp] theorem creditObserved_keeps (sd : Side) (section_ whole cycle : Nat) (s : State) :
    (creditObserved sd section_ whole cycle s).cfg = s.cfg ∧
    (creditObserved sd section_ whole cycle s).ssc = s.ssc ∧
    (creditObserved sd section_ whole cycle s).bdp = s.bdp ∧
    (creditObserved sd section_ whole cycle s).clc = s.clc ∧
    (creditObserved sd section_ whole cycle s).cmn = s.cmn ∧
    (creditObserved sd section_ whole cycle s).flc = s.flc ∧
    (creditObserved sd section_ whole cycle s).bcu = s.bcu ∧
    (creditObserved sd section_ whole cycle s).dsq = s.dsq ∧
    (creditObserved sd section_ whole cycle s).stu = s.stu ∧
    (creditObserved sd section_ whole cycle s).hpt = s.hpt ∧
    (creditObserved sd section_ whole cycle s).atc = s.atc ∧
    (creditObserved sd section_ whole cycle s).pins = s.pins ∧
    (creditObserved sd section_ whole cycle s).free = s.free ∧
    (creditObserved sd section_ whole cycle s).pending = s.pending ∧
    (creditObserved sd section_ whole cycle s).conf = s.conf ∧
    (creditObserved sd section_ whole cycle s).n = s.n := by
  simp [creditObserved]

@[simp] theorem creditUnobserved_keeps (whole : Nat) (s : State) :
    (creditUnobserved whole s).cfg = s.cfg ∧
    (creditUnobserved whole s).ssc = s.ssc ∧
    (creditUnobserved whole s).spt = s.spt ∧
    (creditUnobserved whole s).bdp = s.bdp ∧
    (creditUnobserved whole s).clc = s.clc ∧
    (creditUnobserved whole s).cmn = s.cmn ∧
    (creditUnobserved whole s).flc = s.flc ∧
    (creditUnobserved whole s).bcu = s.bcu ∧
    (creditUnobserved whole s).dsq = s.dsq ∧
    (creditUnobserved whole s).stu = s.stu ∧
    (creditUnobserved whole s).hpt = s.hpt ∧
    (creditUnobserved whole s).atc = s.atc ∧
    (creditUnobserved whole s).pins = s.pins ∧
    (creditUnobserved whole s).free = s.free ∧
    (creditUnobserved whole s).pending = s.pending ∧
    (creditUnobserved whole s).conf = s.conf ∧
    (creditUnobserved whole s).n = s.n := by
  simp [creditUnobserved]

@[simp] theorem tallyEfficiency_keeps (sd : Side) (section_ : Nat) (s : State) :
    (tallyEfficiency sd section_ s).cfg = s.cfg ∧
    (tallyEfficiency sd section_ s).ssc = s.ssc ∧
    (tallyEfficiency sd section_ s).spt = s.spt ∧
    (tallyEfficiency sd section_ s).bdp = s.bdp ∧
    (tallyEfficiency sd section_ s).clc = s.clc ∧
    (tallyEfficiency sd section_ s).cmn = s.cmn ∧
    (tallyEfficiency sd section_ s).flc = s.flc ∧
    (tallyEfficiency sd section_ s).bcu = s.bcu ∧
    (tallyEfficiency sd section_ s).dsq = s.dsq ∧
    (tallyEfficiency sd section_ s).stu = s.stu ∧
    (tallyEfficiency sd section_ s).hpt = s.hpt ∧
    (tallyEfficiency sd section_ s).atc = s.atc ∧
    (tallyEfficiency sd section_ s).pins = s.pins ∧
    (tallyEfficiency sd section_ s).free = s.free ∧
    (tallyEfficiency sd section_ s).pending = s.pending ∧
    (tallyEfficiency sd section_ s).conf = s.conf ∧
    (tallyEfficiency sd section_ s).n = s.n := by
  simp [tallyEfficiency]

@[simp] theorem doffStartProduction_keeps (s : State) :
    (doffStartProduction s).cfg = s.cfg ∧
    (doffStartProduction s).ssc = s.ssc ∧
    (doffStartProduction s).bdp = s.bdp ∧
    (doffStartProduction s).clc = s.clc ∧
    (doffStartProduction s).cmn = s.cmn ∧
    (doffStartProduction s).flc = s.flc ∧
    (doffStartProduction s).bcu = s.bcu ∧
    (doffStartProduction s).dsq = s.dsq ∧
    (doffStartProduction s).stu = s.stu ∧
    (doffStartProduction s).hpt = s.hpt ∧
    (doffStartProduction s).atc = s.atc ∧
    (doffStartProduction s).pins = s.pins ∧
    (doffStartProduction s).free = s.free ∧
    (doffStartProduction s).pending = s.pending ∧
    (doffStartProduction s).conf = s.conf ∧
    (doffStartProduction s).n = s.n := by
  simp [doffStartProduction]

@[simp] theorem moveSpindle_keeps (sd : Side) (pos : Nat) (st : SpindleState) (s : State) :
    (moveSpindle sd pos st s).cfg = s.cfg ∧
    (moveSpindle sd pos st s).ssc = s.ssc ∧
    (moveSpindle sd pos st s).pcn = s.pcn ∧
    (moveSpindle sd pos st s).bdp = s.bdp ∧
    (moveSpindle sd pos st s).clc = s.clc ∧
    (moveSpindle sd pos st s).cmn = s.cmn ∧
    (moveSpindle sd pos st s).flc = s.flc ∧
    (moveSpindle sd pos st s).bcu = s.bcu ∧
    (moveSpindle sd pos st s).dsq = s.dsq ∧
    (moveSpindle sd pos st s).stu = s.stu ∧
    (moveSpindle sd pos st s).hpt = s.hpt ∧
    (moveSpindle sd pos st s).atc = s.atc ∧
    (moveSpindle sd pos st s).pins = s.pins ∧
    (moveSpindle sd pos st s).free = s.free ∧
    (moveSpindle sd pos st s).pending = s.pending ∧
    (moveSpindle sd pos st s).conf = s.conf ∧
    (moveSpindle sd pos st s).n = s.n := by
  simp [moveSpindle]

@[simp] theorem setAttempts_keeps (sd : Side) (pos : Nat) (n : Nat) (s : State) :
    (setAttempts sd pos n s).cfg = s.cfg ∧
    (setAttempts sd pos n s).ssc = s.ssc ∧
    (setAttempts sd pos n s).pcn = s.pcn ∧
    (setAttempts sd pos n s).bdp = s.bdp ∧
    (setAttempts sd pos n s).clc = s.clc ∧
    (setAttempts sd pos n s).cmn = s.cmn ∧
    (setAttempts sd pos n s).flc = s.flc ∧
    (setAttempts sd pos n s).bcu = s.bcu ∧
    (setAttempts sd pos n s).dsq = s.dsq ∧
    (setAttempts sd pos n s).stu = s.stu ∧
    (setAttempts sd pos n s).hpt = s.hpt ∧
    (setAttempts sd pos n s).atc = s.atc ∧
    (setAttempts sd pos n s).pins = s.pins ∧
    (setAttempts sd pos n s).free = s.free ∧
    (setAttempts sd pos n s).pending = s.pending ∧
    (setAttempts sd pos n s).conf = s.conf ∧
    (setAttempts sd pos n s).n = s.n := by
  simp [setAttempts]

@[simp] theorem enterBroken_keeps (sd : Side) (pos : Nat) (nb : Option Nat) (s : State) :
    (enterBroken sd pos nb s).cfg = s.cfg ∧
    (enterBroken sd pos nb s).ssc = s.ssc ∧
    (enterBroken sd pos nb s).pcn = s.pcn ∧
    (enterBroken sd pos nb s).cmn = s.cmn ∧
    (enterBroken sd pos nb s).flc = s.flc ∧
    (enterBroken sd pos nb s).bcu = s.bcu ∧
    (enterBroken sd pos nb s).dsq = s.dsq ∧
    (enterBroken sd pos nb s).stu = s.stu ∧
    (enterBroken sd pos nb s).hpt = s.hpt ∧
    (enterBroken sd pos nb s).pins = s.pins ∧
    (enterBroken sd pos nb s).free = s.free ∧
    (enterBroken sd pos nb s).pending = s.pending ∧
    (enterBroken sd pos nb s).conf = s.conf ∧
    (enterBroken sd pos nb s).n = s.n := by
  simp [enterBroken]

@[simp] theorem enterSensorFault_keeps (sd : Side) (pos : Nat) (r : Spindle) (s : State) :
    (enterSensorFault sd pos r s).cfg = s.cfg ∧
    (enterSensorFault sd pos r s).ssc = s.ssc ∧
    (enterSensorFault sd pos r s).pcn = s.pcn ∧
    (enterSensorFault sd pos r s).flc = s.flc ∧
    (enterSensorFault sd pos r s).bcu = s.bcu ∧
    (enterSensorFault sd pos r s).dsq = s.dsq ∧
    (enterSensorFault sd pos r s).stu = s.stu ∧
    (enterSensorFault sd pos r s).hpt = s.hpt ∧
    (enterSensorFault sd pos r s).pins = s.pins ∧
    (enterSensorFault sd pos r s).free = s.free ∧
    (enterSensorFault sd pos r s).pending = s.pending ∧
    (enterSensorFault sd pos r s).conf = s.conf ∧
    (enterSensorFault sd pos r s).n = s.n := by
  unfold enterSensorFault
  dsimp only
  repeat' first
    | (solve | simp)
    | split

@[simp] theorem leaveSensorFault_keeps (sd : Side) (pos : Nat) (s : State) :
    (leaveSensorFault sd pos s).cfg = s.cfg ∧
    (leaveSensorFault sd pos s).ssc = s.ssc ∧
    (leaveSensorFault sd pos s).pcn = s.pcn ∧
    (leaveSensorFault sd pos s).bdp = s.bdp ∧
    (leaveSensorFault sd pos s).clc = s.clc ∧
    (leaveSensorFault sd pos s).cmn = s.cmn ∧
    (leaveSensorFault sd pos s).flc = s.flc ∧
    (leaveSensorFault sd pos s).bcu = s.bcu ∧
    (leaveSensorFault sd pos s).dsq = s.dsq ∧
    (leaveSensorFault sd pos s).stu = s.stu ∧
    (leaveSensorFault sd pos s).hpt = s.hpt ∧
    (leaveSensorFault sd pos s).atc = s.atc ∧
    (leaveSensorFault sd pos s).pins = s.pins ∧
    (leaveSensorFault sd pos s).free = s.free ∧
    (leaveSensorFault sd pos s).pending = s.pending ∧
    (leaveSensorFault sd pos s).conf = s.conf ∧
    (leaveSensorFault sd pos s).n = s.n := by
  simp [leaveSensorFault]

@[simp] theorem countedFailure_keeps (sd : Side) (pos : Nat) (falseSuccess : Bool) (s : State) :
    (countedFailure sd pos falseSuccess s).cfg = s.cfg ∧
    (countedFailure sd pos falseSuccess s).ssc = s.ssc ∧
    (countedFailure sd pos falseSuccess s).cmn = s.cmn ∧
    (countedFailure sd pos falseSuccess s).flc = s.flc ∧
    (countedFailure sd pos falseSuccess s).bcu = s.bcu ∧
    (countedFailure sd pos falseSuccess s).dsq = s.dsq ∧
    (countedFailure sd pos falseSuccess s).stu = s.stu ∧
    (countedFailure sd pos falseSuccess s).hpt = s.hpt ∧
    (countedFailure sd pos falseSuccess s).pins = s.pins ∧
    (countedFailure sd pos falseSuccess s).free = s.free ∧
    (countedFailure sd pos falseSuccess s).pending = s.pending ∧
    (countedFailure sd pos falseSuccess s).conf = s.conf ∧
    (countedFailure sd pos falseSuccess s).n = s.n := by
  unfold countedFailure
  dsimp only
  repeat' first
    | (solve | simp)
    | split

@[simp] theorem declareBreak_keeps (sd : Side) (pos : Nat) (s : State) :
    (declareBreak sd pos s).cfg = s.cfg ∧
    (declareBreak sd pos s).ssc = s.ssc ∧
    (declareBreak sd pos s).cmn = s.cmn ∧
    (declareBreak sd pos s).flc = s.flc ∧
    (declareBreak sd pos s).bcu = s.bcu ∧
    (declareBreak sd pos s).dsq = s.dsq ∧
    (declareBreak sd pos s).stu = s.stu ∧
    (declareBreak sd pos s).hpt = s.hpt ∧
    (declareBreak sd pos s).pins = s.pins ∧
    (declareBreak sd pos s).free = s.free ∧
    (declareBreak sd pos s).pending = s.pending ∧
    (declareBreak sd pos s).conf = s.conf ∧
    (declareBreak sd pos s).n = s.n := by
  simp [declareBreak]

@[simp] theorem settleSpindle_keeps (sd : Side) (pos : Nat) (st : SpindleState) (s : State) :
    (settleSpindle sd pos st s).cfg = s.cfg ∧
    (settleSpindle sd pos st s).ssc = s.ssc ∧
    (settleSpindle sd pos st s).pcn = s.pcn ∧
    (settleSpindle sd pos st s).bdp = s.bdp ∧
    (settleSpindle sd pos st s).clc = s.clc ∧
    (settleSpindle sd pos st s).cmn = s.cmn ∧
    (settleSpindle sd pos st s).flc = s.flc ∧
    (settleSpindle sd pos st s).bcu = s.bcu ∧
    (settleSpindle sd pos st s).dsq = s.dsq ∧
    (settleSpindle sd pos st s).stu = s.stu ∧
    (settleSpindle sd pos st s).hpt = s.hpt ∧
    (settleSpindle sd pos st s).atc = s.atc ∧
    (settleSpindle sd pos st s).pins = s.pins ∧
    (settleSpindle sd pos st s).free = s.free ∧
    (settleSpindle sd pos st s).pending = s.pending ∧
    (settleSpindle sd pos st s).conf = s.conf ∧
    (settleSpindle sd pos st s).n = s.n := by
  simp [settleSpindle]

@[simp] theorem restore_keeps (sd : Side) (pos : Nat) (r : Spindle) (s : State) :
    (restore sd pos r s).cfg = s.cfg ∧
    (restore sd pos r s).ssc = s.ssc ∧
    (restore sd pos r s).flc = s.flc ∧
    (restore sd pos r s).bcu = s.bcu ∧
    (restore sd pos r s).dsq = s.dsq ∧
    (restore sd pos r s).stu = s.stu ∧
    (restore sd pos r s).hpt = s.hpt ∧
    (restore sd pos r s).pins = s.pins ∧
    (restore sd pos r s).free = s.free ∧
    (restore sd pos r s).pending = s.pending ∧
    (restore sd pos r s).conf = s.conf ∧
    (restore sd pos r s).n = s.n := by
  unfold restore
  dsimp only
  repeat' first
    | (solve | simp)
    | split

@[simp] theorem verifyRead_keeps (sd : Side) (pos : Nat) (r : Spindle) (s : State) :
    (verifyRead sd pos r s).cfg = s.cfg ∧
    (verifyRead sd pos r s).ssc = s.ssc ∧
    (verifyRead sd pos r s).cmn = s.cmn ∧
    (verifyRead sd pos r s).flc = s.flc ∧
    (verifyRead sd pos r s).bcu = s.bcu ∧
    (verifyRead sd pos r s).dsq = s.dsq ∧
    (verifyRead sd pos r s).stu = s.stu ∧
    (verifyRead sd pos r s).hpt = s.hpt ∧
    (verifyRead sd pos r s).pins = s.pins ∧
    (verifyRead sd pos r s).free = s.free ∧
    (verifyRead sd pos r s).pending = s.pending ∧
    (verifyRead sd pos r s).conf = s.conf ∧
    (verifyRead sd pos r s).n = s.n := by
  unfold verifyRead
  repeat' first
    | (solve | simp)
    | split

@[simp] theorem judgeEvidence_keeps (sd : Side) (pos : Nat) (r : Spindle) (s : State) :
    (judgeEvidence sd pos r s).cfg = s.cfg ∧
    (judgeEvidence sd pos r s).ssc = s.ssc ∧
    (judgeEvidence sd pos r s).flc = s.flc ∧
    (judgeEvidence sd pos r s).bcu = s.bcu ∧
    (judgeEvidence sd pos r s).dsq = s.dsq ∧
    (judgeEvidence sd pos r s).stu = s.stu ∧
    (judgeEvidence sd pos r s).hpt = s.hpt ∧
    (judgeEvidence sd pos r s).pins = s.pins ∧
    (judgeEvidence sd pos r s).free = s.free ∧
    (judgeEvidence sd pos r s).pending = s.pending ∧
    (judgeEvidence sd pos r s).conf = s.conf ∧
    (judgeEvidence sd pos r s).n = s.n := by
  unfold judgeEvidence
  dsimp only
  repeat' first
    | (solve | simp)
    | split

@[simp] theorem judgeSpindle_keeps (sd : Side) (s : State) (pos : Nat) :
    (judgeSpindle sd s pos).cfg = s.cfg ∧
    (judgeSpindle sd s pos).ssc = s.ssc ∧
    (judgeSpindle sd s pos).flc = s.flc ∧
    (judgeSpindle sd s pos).bcu = s.bcu ∧
    (judgeSpindle sd s pos).dsq = s.dsq ∧
    (judgeSpindle sd s pos).stu = s.stu ∧
    (judgeSpindle sd s pos).hpt = s.hpt ∧
    (judgeSpindle sd s pos).pins = s.pins ∧
    (judgeSpindle sd s pos).free = s.free ∧
    (judgeSpindle sd s pos).pending = s.pending ∧
    (judgeSpindle sd s pos).conf = s.conf ∧
    (judgeSpindle sd s pos).n = s.n := by
  unfold judgeSpindle
  repeat' first
    | (solve | simp)
    | split

@[simp] theorem judgeSection_keeps (sd : Side) (section_ : Nat) (s : State) :
    (judgeSection sd section_ s).cfg = s.cfg ∧
    (judgeSection sd section_ s).ssc = s.ssc ∧
    (judgeSection sd section_ s).flc = s.flc ∧
    (judgeSection sd section_ s).bcu = s.bcu ∧
    (judgeSection sd section_ s).dsq = s.dsq ∧
    (judgeSection sd section_ s).stu = s.stu ∧
    (judgeSection sd section_ s).hpt = s.hpt ∧
    (judgeSection sd section_ s).pins = s.pins ∧
    (judgeSection sd section_ s).free = s.free ∧
    (judgeSection sd section_ s).pending = s.pending ∧
    (judgeSection sd section_ s).conf = s.conf ∧
    (judgeSection sd section_ s).n = s.n := by
  simp [judgeSection]

@[simp] theorem tableOutcome_keeps (sd : Side) (pos : Nat) (k : Outcome) (s : State) :
    (tableOutcome sd pos k s).cfg = s.cfg ∧
    (tableOutcome sd pos k s).ssc = s.ssc ∧
    (tableOutcome sd pos k s).flc = s.flc ∧
    (tableOutcome sd pos k s).bcu = s.bcu ∧
    (tableOutcome sd pos k s).dsq = s.dsq ∧
    (tableOutcome sd pos k s).stu = s.stu ∧
    (tableOutcome sd pos k s).hpt = s.hpt ∧
    (tableOutcome sd pos k s).pins = s.pins ∧
    (tableOutcome sd pos k s).free = s.free ∧
    (tableOutcome sd pos k s).pending = s.pending ∧
    (tableOutcome sd pos k s).conf = s.conf ∧
    (tableOutcome sd pos k s).n = s.n := by
  unfold tableOutcome
  repeat' first
    | (solve | simp)
    | split

@[simp] theorem tenterClear_keeps (sd : Side) (pos : Nat) (s : State) :
    (tenterClear sd pos s).cfg = s.cfg ∧
    (tenterClear sd pos s).ssc = s.ssc ∧
    (tenterClear sd pos s).pcn = s.pcn ∧
    (tenterClear sd pos s).cmn = s.cmn ∧
    (tenterClear sd pos s).flc = s.flc ∧
    (tenterClear sd pos s).bcu = s.bcu ∧
    (tenterClear sd pos s).dsq = s.dsq ∧
    (tenterClear sd pos s).stu = s.stu ∧
    (tenterClear sd pos s).hpt = s.hpt ∧
    (tenterClear sd pos s).pins = s.pins ∧
    (tenterClear sd pos s).free = s.free ∧
    (tenterClear sd pos s).pending = s.pending ∧
    (tenterClear sd pos s).conf = s.conf ∧
    (tenterClear sd pos s).n = s.n := by
  simp [tenterClear]

@[simp] theorem mapSpindles_keeps (f : Spindle → Spindle) (s : State) :
    (mapSpindles f s).cfg = s.cfg ∧
    (mapSpindles f s).ssc = s.ssc ∧
    (mapSpindles f s).pcn = s.pcn ∧
    (mapSpindles f s).bdp = s.bdp ∧
    (mapSpindles f s).clc = s.clc ∧
    (mapSpindles f s).cmn = s.cmn ∧
    (mapSpindles f s).flc = s.flc ∧
    (mapSpindles f s).bcu = s.bcu ∧
    (mapSpindles f s).dsq = s.dsq ∧
    (mapSpindles f s).stu = s.stu ∧
    (mapSpindles f s).hpt = s.hpt ∧
    (mapSpindles f s).atc = s.atc ∧
    (mapSpindles f s).pins = s.pins ∧
    (mapSpindles f s).free = s.free ∧
    (mapSpindles f s).pending = s.pending ∧
    (mapSpindles f s).conf = s.conf ∧
    (mapSpindles f s).n = s.n := by
  simp [mapSpindles]

@[simp] theorem judgeRestart_keeps (sd : Side) (s : State) (pos : Nat) :
    (judgeRestart sd s pos).cfg = s.cfg ∧
    (judgeRestart sd s pos).ssc = s.ssc ∧
    (judgeRestart sd s pos).cmn = s.cmn ∧
    (judgeRestart sd s pos).flc = s.flc ∧
    (judgeRestart sd s pos).bcu = s.bcu ∧
    (judgeRestart sd s pos).dsq = s.dsq ∧
    (judgeRestart sd s pos).stu = s.stu ∧
    (judgeRestart sd s pos).hpt = s.hpt ∧
    (judgeRestart sd s pos).pins = s.pins ∧
    (judgeRestart sd s pos).free = s.free ∧
    (judgeRestart sd s pos).pending = s.pending ∧
    (judgeRestart sd s pos).conf = s.conf ∧
    (judgeRestart sd s pos).n = s.n := by
  unfold judgeRestart
  repeat' first
    | (solve | simp)
    | split

@[simp] theorem restartJudgement_keeps (complete : Bool) (s : State) :
    (restartJudgement complete s).cfg = s.cfg ∧
    (restartJudgement complete s).ssc = s.ssc ∧
    (restartJudgement complete s).cmn = s.cmn ∧
    (restartJudgement complete s).flc = s.flc ∧
    (restartJudgement complete s).bcu = s.bcu ∧
    (restartJudgement complete s).dsq = s.dsq ∧
    (restartJudgement complete s).stu = s.stu ∧
    (restartJudgement complete s).hpt = s.hpt ∧
    (restartJudgement complete s).pins = s.pins ∧
    (restartJudgement complete s).free = s.free ∧
    (restartJudgement complete s).pending = s.pending ∧
    (restartJudgement complete s).conf = s.conf ∧
    (restartJudgement complete s).n = s.n := by
  unfold restartJudgement
  dsimp only
  repeat' first
    | (solve | simp)
    | split

@[simp] theorem renewSpindle_keeps (sd : Side) (s : State) (pos : Nat) :
    (renewSpindle sd s pos).cfg = s.cfg ∧
    (renewSpindle sd s pos).ssc = s.ssc ∧
    (renewSpindle sd s pos).pcn = s.pcn ∧
    (renewSpindle sd s pos).cmn = s.cmn ∧
    (renewSpindle sd s pos).flc = s.flc ∧
    (renewSpindle sd s pos).bcu = s.bcu ∧
    (renewSpindle sd s pos).dsq = s.dsq ∧
    (renewSpindle sd s pos).stu = s.stu ∧
    (renewSpindle sd s pos).hpt = s.hpt ∧
    (renewSpindle sd s pos).pins = s.pins ∧
    (renewSpindle sd s pos).free = s.free ∧
    (renewSpindle sd s pos).pending = s.pending ∧
    (renewSpindle sd s pos).conf = s.conf ∧
    (renewSpindle sd s pos).n = s.n := by
  unfold renewSpindle
  repeat' first
    | (solve | simp)
    | split

@[simp] theorem renewGroupSpindles_keeps (index : Nat) (s : State) :
    (renewGroupSpindles index s).cfg = s.cfg ∧
    (renewGroupSpindles index s).ssc = s.ssc ∧
    (renewGroupSpindles index s).pcn = s.pcn ∧
    (renewGroupSpindles index s).flc = s.flc ∧
    (renewGroupSpindles index s).bcu = s.bcu ∧
    (renewGroupSpindles index s).dsq = s.dsq ∧
    (renewGroupSpindles index s).stu = s.stu ∧
    (renewGroupSpindles index s).hpt = s.hpt ∧
    (renewGroupSpindles index s).pins = s.pins ∧
    (renewGroupSpindles index s).free = s.free ∧
    (renewGroupSpindles index s).pending = s.pending ∧
    (renewGroupSpindles index s).conf = s.conf ∧
    (renewGroupSpindles index s).n = s.n := by
  simp [renewGroupSpindles]

@[simp] theorem modCar_keeps (sd : Side) (f : Carriage → Carriage) (s : State) :
    (modCar sd f s).cfg = s.cfg ∧
    (modCar sd f s).ssc = s.ssc ∧
    (modCar sd f s).spt = s.spt ∧
    (modCar sd f s).pcn = s.pcn ∧
    (modCar sd f s).bdp = s.bdp ∧
    (modCar sd f s).cmn = s.cmn ∧
    (modCar sd f s).flc = s.flc ∧
    (modCar sd f s).bcu = s.bcu ∧
    (modCar sd f s).dsq = s.dsq ∧
    (modCar sd f s).stu = s.stu ∧
    (modCar sd f s).hpt = s.hpt ∧
    (modCar sd f s).atc = s.atc ∧
    (modCar sd f s).pins = s.pins ∧
    (modCar sd f s).free = s.free ∧
    (modCar sd f s).pending = s.pending ∧
    (modCar sd f s).conf = s.conf ∧
    (modCar sd f s).n = s.n := by
  simp [modCar]

@[simp] theorem reportTo_keeps (sd : Side) (pos : Nat) (k : Outcome) (s : State) :
    (reportTo sd pos k s).cfg = s.cfg ∧
    (reportTo sd pos k s).ssc = s.ssc ∧
    (reportTo sd pos k s).flc = s.flc ∧
    (reportTo sd pos k s).bcu = s.bcu ∧
    (reportTo sd pos k s).dsq = s.dsq ∧
    (reportTo sd pos k s).stu = s.stu ∧
    (reportTo sd pos k s).hpt = s.hpt ∧
    (reportTo sd pos k s).pins = s.pins ∧
    (reportTo sd pos k s).free = s.free ∧
    (reportTo sd pos k s).pending = s.pending ∧
    (reportTo sd pos k s).conf = s.conf ∧
    (reportTo sd pos k s).n = s.n := by
  simp [reportTo]

@[simp] theorem endJob_keeps (sd : Side) (k : Outcome) (s : State) :
    (endJob sd k s).cfg = s.cfg ∧
    (endJob sd k s).ssc = s.ssc ∧
    (endJob sd k s).flc = s.flc ∧
    (endJob sd k s).bcu = s.bcu ∧
    (endJob sd k s).dsq = s.dsq ∧
    (endJob sd k s).stu = s.stu ∧
    (endJob sd k s).hpt = s.hpt ∧
    (endJob sd k s).pins = s.pins ∧
    (endJob sd k s).free = s.free ∧
    (endJob sd k s).pending = s.pending ∧
    (endJob sd k s).conf = s.conf ∧
    (endJob sd k s).n = s.n := by
  unfold endJob
  repeat' first
    | (solve | simp)
    | split

@[simp] theorem endRecord_keeps (sd : Side) (k : Outcome) (s : State) :
    (endRecord sd k s).cfg = s.cfg ∧
    (endRecord sd k s).ssc = s.ssc ∧
    (endRecord sd k s).flc = s.flc ∧
    (endRecord sd k s).bcu = s.bcu ∧
    (endRecord sd k s).dsq = s.dsq ∧
    (endRecord sd k s).stu = s.stu ∧
    (endRecord sd k s).hpt = s.hpt ∧
    (endRecord sd k s).pins = s.pins ∧
    (endRecord sd k s).free = s.free ∧
    (endRecord sd k s).pending = s.pending ∧
    (endRecord sd k s).conf = s.conf ∧
    (endRecord sd k s).n = s.n := by
  unfold endRecord
  repeat' first
    | (solve | simp)
    | split

@[simp] theorem takeReport_keeps (sd : Side) (d : DoneReport) (s : State) :
    (takeReport sd d s).cfg = s.cfg ∧
    (takeReport sd d s).ssc = s.ssc ∧
    (takeReport sd d s).flc = s.flc ∧
    (takeReport sd d s).bcu = s.bcu ∧
    (takeReport sd d s).dsq = s.dsq ∧
    (takeReport sd d s).stu = s.stu ∧
    (takeReport sd d s).hpt = s.hpt ∧
    (takeReport sd d s).pins = s.pins ∧
    (takeReport sd d s).free = s.free ∧
    (takeReport sd d s).pending = s.pending ∧
    (takeReport sd d s).conf = s.conf ∧
    (takeReport sd d s).n = s.n := by
  unfold takeReport
  dsimp only
  repeat' first
    | (solve | simp)
    | split

@[simp] theorem enterLost_keeps (sd : Side) (s : State) :
    (enterLost sd s).cfg = s.cfg ∧
    (enterLost sd s).ssc = s.ssc ∧
    (enterLost sd s).flc = s.flc ∧
    (enterLost sd s).bcu = s.bcu ∧
    (enterLost sd s).dsq = s.dsq ∧
    (enterLost sd s).stu = s.stu ∧
    (enterLost sd s).hpt = s.hpt ∧
    (enterLost sd s).pins = s.pins ∧
    (enterLost sd s).free = s.free ∧
    (enterLost sd s).pending = s.pending ∧
    (enterLost sd s).conf = s.conf ∧
    (enterLost sd s).n = s.n := by
  simp [enterLost]

@[simp] theorem suspectCarriage_keeps (sd : Side) (s : State) :
    (suspectCarriage sd s).cfg = s.cfg ∧
    (suspectCarriage sd s).ssc = s.ssc ∧
    (suspectCarriage sd s).spt = s.spt ∧
    (suspectCarriage sd s).pcn = s.pcn ∧
    (suspectCarriage sd s).bdp = s.bdp ∧
    (suspectCarriage sd s).cmn = s.cmn ∧
    (suspectCarriage sd s).flc = s.flc ∧
    (suspectCarriage sd s).bcu = s.bcu ∧
    (suspectCarriage sd s).dsq = s.dsq ∧
    (suspectCarriage sd s).stu = s.stu ∧
    (suspectCarriage sd s).hpt = s.hpt ∧
    (suspectCarriage sd s).pins = s.pins ∧
    (suspectCarriage sd s).free = s.free ∧
    (suspectCarriage sd s).pending = s.pending ∧
    (suspectCarriage sd s).conf = s.conf ∧
    (suspectCarriage sd s).n = s.n := by
  simp [suspectCarriage]

@[simp] theorem faultAnswer_keeps (sd : Side) (code : Byte) (s : State) :
    (faultAnswer sd code s).cfg = s.cfg ∧
    (faultAnswer sd code s).ssc = s.ssc ∧
    (faultAnswer sd code s).flc = s.flc ∧
    (faultAnswer sd code s).bcu = s.bcu ∧
    (faultAnswer sd code s).dsq = s.dsq ∧
    (faultAnswer sd code s).stu = s.stu ∧
    (faultAnswer sd code s).hpt = s.hpt ∧
    (faultAnswer sd code s).pins = s.pins ∧
    (faultAnswer sd code s).free = s.free ∧
    (faultAnswer sd code s).pending = s.pending ∧
    (faultAnswer sd code s).conf = s.conf ∧
    (faultAnswer sd code s).n = s.n := by
  unfold faultAnswer
  dsimp only
  repeat' first
    | (solve | simp)
    | split

@[simp] theorem silenceExpiry_keeps (sd : Side) (s : State) :
    (silenceExpiry sd s).cfg = s.cfg ∧
    (silenceExpiry sd s).ssc = s.ssc ∧
    (silenceExpiry sd s).flc = s.flc ∧
    (silenceExpiry sd s).bcu = s.bcu ∧
    (silenceExpiry sd s).dsq = s.dsq ∧
    (silenceExpiry sd s).stu = s.stu ∧
    (silenceExpiry sd s).hpt = s.hpt ∧
    (silenceExpiry sd s).pins = s.pins ∧
    (silenceExpiry sd s).free = s.free ∧
    (silenceExpiry sd s).pending = s.pending ∧
    (silenceExpiry sd s).conf = s.conf ∧
    (silenceExpiry sd s).n = s.n := by
  unfold silenceExpiry
  dsimp only
  repeat' first
    | (solve | simp)
    | split

@[simp] theorem readyFromParked_keeps (sd : Side) (s : State) :
    (readyFromParked sd s).cfg = s.cfg ∧
    (readyFromParked sd s).ssc = s.ssc ∧
    (readyFromParked sd s).spt = s.spt ∧
    (readyFromParked sd s).pcn = s.pcn ∧
    (readyFromParked sd s).bdp = s.bdp ∧
    (readyFromParked sd s).cmn = s.cmn ∧
    (readyFromParked sd s).flc = s.flc ∧
    (readyFromParked sd s).bcu = s.bcu ∧
    (readyFromParked sd s).dsq = s.dsq ∧
    (readyFromParked sd s).stu = s.stu ∧
    (readyFromParked sd s).hpt = s.hpt ∧
    (readyFromParked sd s).atc = s.atc ∧
    (readyFromParked sd s).pins = s.pins ∧
    (readyFromParked sd s).free = s.free ∧
    (readyFromParked sd s).pending = s.pending ∧
    (readyFromParked sd s).conf = s.conf ∧
    (readyFromParked sd s).n = s.n := by
  unfold readyFromParked
  dsimp only
  repeat' first
    | (solve | simp)
    | split

@[simp] theorem statusDispatched_keeps (sd : Side) (st : CarStatus) (s : State) :
    (statusDispatched sd st s).cfg = s.cfg ∧
    (statusDispatched sd st s).ssc = s.ssc ∧
    (statusDispatched sd st s).flc = s.flc ∧
    (statusDispatched sd st s).bcu = s.bcu ∧
    (statusDispatched sd st s).dsq = s.dsq ∧
    (statusDispatched sd st s).stu = s.stu ∧
    (statusDispatched sd st s).hpt = s.hpt ∧
    (statusDispatched sd st s).pins = s.pins ∧
    (statusDispatched sd st s).free = s.free ∧
    (statusDispatched sd st s).pending = s.pending ∧
    (statusDispatched sd st s).conf = s.conf ∧
    (statusDispatched sd st s).n = s.n := by
  unfold statusDispatched
  dsimp only
  repeat' first
    | (solve | simp)
    | split

@[simp] theorem statusParking_keeps (sd : Side) (st : CarStatus) (s : State) :
    (statusParking sd st s).cfg = s.cfg ∧
    (statusParking sd st s).ssc = s.ssc ∧
    (statusParking sd st s).spt = s.spt ∧
    (statusParking sd st s).pcn = s.pcn ∧
    (statusParking sd st s).bdp = s.bdp ∧
    (statusParking sd st s).cmn = s.cmn ∧
    (statusParking sd st s).flc = s.flc ∧
    (statusParking sd st s).bcu = s.bcu ∧
    (statusParking sd st s).dsq = s.dsq ∧
    (statusParking sd st s).stu = s.stu ∧
    (statusParking sd st s).hpt = s.hpt ∧
    (statusParking sd st s).atc = s.atc ∧
    (statusParking sd st s).pins = s.pins ∧
    (statusParking sd st s).free = s.free ∧
    (statusParking sd st s).pending = s.pending ∧
    (statusParking sd st s).conf = s.conf ∧
    (statusParking sd st s).n = s.n := by
  unfold statusParking
  repeat' first
    | (solve | simp)
    | split

@[simp] theorem statusParked_keeps (sd : Side) (st : CarStatus) (s : State) :
    (statusParked sd st s).cfg = s.cfg ∧
    (statusParked sd st s).ssc = s.ssc ∧
    (statusParked sd st s).spt = s.spt ∧
    (statusParked sd st s).pcn = s.pcn ∧
    (statusParked sd st s).bdp = s.bdp ∧
    (statusParked sd st s).cmn = s.cmn ∧
    (statusParked sd st s).flc = s.flc ∧
    (statusParked sd st s).bcu = s.bcu ∧
    (statusParked sd st s).dsq = s.dsq ∧
    (statusParked sd st s).stu = s.stu ∧
    (statusParked sd st s).hpt = s.hpt ∧
    (statusParked sd st s).atc = s.atc ∧
    (statusParked sd st s).pins = s.pins ∧
    (statusParked sd st s).free = s.free ∧
    (statusParked sd st s).pending = s.pending ∧
    (statusParked sd st s).conf = s.conf ∧
    (statusParked sd st s).n = s.n := by
  unfold statusParked
  dsimp only
  repeat' first
    | (solve | simp)
    | split

@[simp] theorem statusReady_keeps (sd : Side) (st : CarStatus) (s : State) :
    (statusReady sd st s).cfg = s.cfg ∧
    (statusReady sd st s).ssc = s.ssc ∧
    (statusReady sd st s).spt = s.spt ∧
    (statusReady sd st s).pcn = s.pcn ∧
    (statusReady sd st s).bdp = s.bdp ∧
    (statusReady sd st s).cmn = s.cmn ∧
    (statusReady sd st s).flc = s.flc ∧
    (statusReady sd st s).bcu = s.bcu ∧
    (statusReady sd st s).dsq = s.dsq ∧
    (statusReady sd st s).stu = s.stu ∧
    (statusReady sd st s).hpt = s.hpt ∧
    (statusReady sd st s).atc = s.atc ∧
    (statusReady sd st s).pins = s.pins ∧
    (statusReady sd st s).free = s.free ∧
    (statusReady sd st s).pending = s.pending ∧
    (statusReady sd st s).conf = s.conf ∧
    (statusReady sd st s).n = s.n := by
  unfold statusReady
  repeat' first
    | (solve | simp)
    | split

@[simp] theorem actStatus_keeps (sd : Side) (st : CarStatus) (s : State) :
    (actStatus sd st s).cfg = s.cfg ∧
    (actStatus sd st s).ssc = s.ssc ∧
    (actStatus sd st s).flc = s.flc ∧
    (actStatus sd st s).bcu = s.bcu ∧
    (actStatus sd st s).dsq = s.dsq ∧
    (actStatus sd st s).stu = s.stu ∧
    (actStatus sd st s).hpt = s.hpt ∧
    (actStatus sd st s).pins = s.pins ∧
    (actStatus sd st s).free = s.free ∧
    (actStatus sd st s).pending = s.pending ∧
    (actStatus sd st s).conf = s.conf ∧
    (actStatus sd st s).n = s.n := by
  unfold actStatus
  repeat' first
    | (solve | simp)
    | split

@[simp] theorem completeConnection_keeps (sd : Side) (a : CarAnswer) (s : State) :
    (completeConnection sd a s).cfg = s.cfg ∧
    (completeConnection sd a s).ssc = s.ssc ∧
    (completeConnection sd a s).spt = s.spt ∧
    (completeConnection sd a s).pcn = s.pcn ∧
    (completeConnection sd a s).bdp = s.bdp ∧
    (completeConnection sd a s).cmn = s.cmn ∧
    (completeConnection sd a s).flc = s.flc ∧
    (completeConnection sd a s).bcu = s.bcu ∧
    (completeConnection sd a s).dsq = s.dsq ∧
    (completeConnection sd a s).stu = s.stu ∧
    (completeConnection sd a s).hpt = s.hpt ∧
    (completeConnection sd a s).atc = s.atc ∧
    (completeConnection sd a s).pins = s.pins ∧
    (completeConnection sd a s).free = s.free ∧
    (completeConnection sd a s).pending = s.pending ∧
    (completeConnection sd a s).conf = s.conf ∧
    (completeConnection sd a s).n = s.n := by
  simp [completeConnection]

@[simp] theorem answerConnecting_keeps (sd : Side) (took : Option OrderKind) (a : CarAnswer) (s : State) :
    (answerConnecting sd took a s).cfg = s.cfg ∧
    (answerConnecting sd took a s).ssc = s.ssc ∧
    (answerConnecting sd took a s).flc = s.flc ∧
    (answerConnecting sd took a s).bcu = s.bcu ∧
    (answerConnecting sd took a s).dsq = s.dsq ∧
    (answerConnecting sd took a s).stu = s.stu ∧
    (answerConnecting sd took a s).hpt = s.hpt ∧
    (answerConnecting sd took a s).pins = s.pins ∧
    (answerConnecting sd took a s).free = s.free ∧
    (answerConnecting sd took a s).pending = s.pending ∧
    (answerConnecting sd took a s).conf = s.conf ∧
    (answerConnecting sd took a s).n = s.n := by
  unfold answerConnecting
  dsimp only
  repeat' first
    | (solve | simp)
    | split

@[simp] theorem answerConnected_keeps (sd : Side) (a : CarAnswer) (s : State) :
    (answerConnected sd a s).cfg = s.cfg ∧
    (answerConnected sd a s).ssc = s.ssc ∧
    (answerConnected sd a s).flc = s.flc ∧
    (answerConnected sd a s).bcu = s.bcu ∧
    (answerConnected sd a s).dsq = s.dsq ∧
    (answerConnected sd a s).stu = s.stu ∧
    (answerConnected sd a s).hpt = s.hpt ∧
    (answerConnected sd a s).pins = s.pins ∧
    (answerConnected sd a s).free = s.free ∧
    (answerConnected sd a s).pending = s.pending ∧
    (answerConnected sd a s).conf = s.conf ∧
    (answerConnected sd a s).n = s.n := by
  unfold answerConnected
  dsimp only
  repeat' first
    | (solve | simp)
    | split

@[simp] theorem actAnswer_keeps (sd : Side) (a : CarAnswer) (s : State) :
    (actAnswer sd a s).cfg = s.cfg ∧
    (actAnswer sd a s).ssc = s.ssc ∧
    (actAnswer sd a s).flc = s.flc ∧
    (actAnswer sd a s).bcu = s.bcu ∧
    (actAnswer sd a s).dsq = s.dsq ∧
    (actAnswer sd a s).stu = s.stu ∧
    (actAnswer sd a s).hpt = s.hpt ∧
    (actAnswer sd a s).pins = s.pins ∧
    (actAnswer sd a s).free = s.free ∧
    (actAnswer sd a s).pending = s.pending ∧
    (actAnswer sd a s).conf = s.conf ∧
    (actAnswer sd a s).n = s.n := by
  unfold actAnswer
  dsimp only
  repeat' first
    | (solve | simp)
    | split

@[simp] theorem examineIfReady_keeps (sd : Side) (before : CarState) (s : State) :
    (examineIfReady sd before s).cfg = s.cfg ∧
    (examineIfReady sd before s).ssc = s.ssc ∧
    (examineIfReady sd before s).pcn = s.pcn ∧
    (examineIfReady sd before s).cmn = s.cmn ∧
    (examineIfReady sd before s).flc = s.flc ∧
    (examineIfReady sd before s).bcu = s.bcu ∧
    (examineIfReady sd before s).dsq = s.dsq ∧
    (examineIfReady sd before s).stu = s.stu ∧
    (examineIfReady sd before s).hpt = s.hpt ∧
    (examineIfReady sd before s).atc = s.atc ∧
    (examineIfReady sd before s).pins = s.pins ∧
    (examineIfReady sd before s).free = s.free ∧
    (examineIfReady sd before s).pending = s.pending ∧
    (examineIfReady sd before s).conf = s.conf ∧
    (examineIfReady sd before s).n = s.n := by
  unfold examineIfReady
  repeat' first
    | (solve | simp)
    | split

@[simp] theorem carriageAnswer_keeps (sd : Side) (bytes : List Byte) (s : State) :
    (carriageAnswer sd bytes s).cfg = s.cfg ∧
    (carriageAnswer sd bytes s).ssc = s.ssc ∧
    (carriageAnswer sd bytes s).flc = s.flc ∧
    (carriageAnswer sd bytes s).bcu = s.bcu ∧
    (carriageAnswer sd bytes s).dsq = s.dsq ∧
    (carriageAnswer sd bytes s).stu = s.stu ∧
    (carriageAnswer sd bytes s).hpt = s.hpt ∧
    (carriageAnswer sd bytes s).pins = s.pins ∧
    (carriageAnswer sd bytes s).free = s.free ∧
    (carriageAnswer sd bytes s).pending = s.pending ∧
    (carriageAnswer sd bytes s).conf = s.conf ∧
    (carriageAnswer sd bytes s).n = s.n := by
  unfold carriageAnswer
  dsimp only
  repeat' first
    | (solve | simp)
    | split

@[simp] theorem abandonJob_keeps (sd : Side) (k : Outcome) (s : State) :
    (abandonJob sd k s).cfg = s.cfg ∧
    (abandonJob sd k s).ssc = s.ssc ∧
    (abandonJob sd k s).flc = s.flc ∧
    (abandonJob sd k s).bcu = s.bcu ∧
    (abandonJob sd k s).dsq = s.dsq ∧
    (abandonJob sd k s).stu = s.stu ∧
    (abandonJob sd k s).hpt = s.hpt ∧
    (abandonJob sd k s).pins = s.pins ∧
    (abandonJob sd k s).free = s.free ∧
    (abandonJob sd k s).pending = s.pending ∧
    (abandonJob sd k s).conf = s.conf ∧
    (abandonJob sd k s).n = s.n := by
  unfold abandonJob
  dsimp only
  repeat' first
    | (solve | simp)
    | split

@[simp] theorem jobExpiry_keeps (sd : Side) (s : State) :
    (jobExpiry sd s).cfg = s.cfg ∧
    (jobExpiry sd s).ssc = s.ssc ∧
    (jobExpiry sd s).flc = s.flc ∧
    (jobExpiry sd s).bcu = s.bcu ∧
    (jobExpiry sd s).dsq = s.dsq ∧
    (jobExpiry sd s).stu = s.stu ∧
    (jobExpiry sd s).hpt = s.hpt ∧
    (jobExpiry sd s).pins = s.pins ∧
    (jobExpiry sd s).free = s.free ∧
    (jobExpiry sd s).pending = s.pending ∧
    (jobExpiry sd s).conf = s.conf ∧
    (jobExpiry sd s).n = s.n := by
  unfold jobExpiry
  repeat' first
    | (solve | simp)
    | split

@[simp] theorem creelChangeAbort_keeps (sd : Side) (section_ : Nat) (s : State) :
    (creelChangeAbort sd section_ s).cfg = s.cfg ∧
    (creelChangeAbort sd section_ s).ssc = s.ssc ∧
    (creelChangeAbort sd section_ s).flc = s.flc ∧
    (creelChangeAbort sd section_ s).bcu = s.bcu ∧
    (creelChangeAbort sd section_ s).dsq = s.dsq ∧
    (creelChangeAbort sd section_ s).stu = s.stu ∧
    (creelChangeAbort sd section_ s).hpt = s.hpt ∧
    (creelChangeAbort sd section_ s).pins = s.pins ∧
    (creelChangeAbort sd section_ s).free = s.free ∧
    (creelChangeAbort sd section_ s).pending = s.pending ∧
    (creelChangeAbort sd section_ s).conf = s.conf ∧
    (creelChangeAbort sd section_ s).n = s.n := by
  unfold creelChangeAbort
  dsimp only
  repeat' first
    | (solve | simp)
    | split

@[simp] theorem parkBoth_keeps (s : State) :
    (parkBoth s).cfg = s.cfg ∧
    (parkBoth s).ssc = s.ssc ∧
    (parkBoth s).spt = s.spt ∧
    (parkBoth s).pcn = s.pcn ∧
    (parkBoth s).bdp = s.bdp ∧
    (parkBoth s).cmn = s.cmn ∧
    (parkBoth s).flc = s.flc ∧
    (parkBoth s).bcu = s.bcu ∧
    (parkBoth s).dsq = s.dsq ∧
    (parkBoth s).stu = s.stu ∧
    (parkBoth s).hpt = s.hpt ∧
    (parkBoth s).atc = s.atc ∧
    (parkBoth s).pins = s.pins ∧
    (parkBoth s).free = s.free ∧
    (parkBoth s).pending = s.pending ∧
    (parkBoth s).conf = s.conf ∧
    (parkBoth s).n = s.n := by
  simp [parkBoth]

@[simp] theorem tierResumeBoth_keeps (s : State) :
    (tierResumeBoth s).cfg = s.cfg ∧
    (tierResumeBoth s).ssc = s.ssc ∧
    (tierResumeBoth s).spt = s.spt ∧
    (tierResumeBoth s).pcn = s.pcn ∧
    (tierResumeBoth s).bdp = s.bdp ∧
    (tierResumeBoth s).cmn = s.cmn ∧
    (tierResumeBoth s).flc = s.flc ∧
    (tierResumeBoth s).bcu = s.bcu ∧
    (tierResumeBoth s).dsq = s.dsq ∧
    (tierResumeBoth s).stu = s.stu ∧
    (tierResumeBoth s).hpt = s.hpt ∧
    (tierResumeBoth s).atc = s.atc ∧
    (tierResumeBoth s).pins = s.pins ∧
    (tierResumeBoth s).free = s.free ∧
    (tierResumeBoth s).pending = s.pending ∧
    (tierResumeBoth s).conf = s.conf ∧
    (tierResumeBoth s).n = s.n := by
  simp [tierResumeBoth]

@[simp] theorem doffResumeBoth_keeps (s : State) :
    (doffResumeBoth s).cfg = s.cfg ∧
    (doffResumeBoth s).ssc = s.ssc ∧
    (doffResumeBoth s).spt = s.spt ∧
    (doffResumeBoth s).pcn = s.pcn ∧
    (doffResumeBoth s).bdp = s.bdp ∧
    (doffResumeBoth s).cmn = s.cmn ∧
    (doffResumeBoth s).flc = s.flc ∧
    (doffResumeBoth s).bcu = s.bcu ∧
    (doffResumeBoth s).dsq = s.dsq ∧
    (doffResumeBoth s).stu = s.stu ∧
    (doffResumeBoth s).hpt = s.hpt ∧
    (doffResumeBoth s).atc = s.atc ∧
    (doffResumeBoth s).pins = s.pins ∧
    (doffResumeBoth s).free = s.free ∧
    (doffResumeBoth s).pending = s.pending ∧
    (doffResumeBoth s).conf = s.conf ∧
    (doffResumeBoth s).n = s.n := by
  simp [doffResumeBoth]

@[simp] theorem doffParkBoth_keeps (s : State) :
    (doffParkBoth s).cfg = s.cfg ∧
    (doffParkBoth s).ssc = s.ssc ∧
    (doffParkBoth s).spt = s.spt ∧
    (doffParkBoth s).pcn = s.pcn ∧
    (doffParkBoth s).bdp = s.bdp ∧
    (doffParkBoth s).cmn = s.cmn ∧
    (doffParkBoth s).flc = s.flc ∧
    (doffParkBoth s).bcu = s.bcu ∧
    (doffParkBoth s).dsq = s.dsq ∧
    (doffParkBoth s).stu = s.stu ∧
    (doffParkBoth s).hpt = s.hpt ∧
    (doffParkBoth s).atc = s.atc ∧
    (doffParkBoth s).pins = s.pins ∧
    (doffParkBoth s).free = s.free ∧
    (doffParkBoth s).pending = s.pending ∧
    (doffParkBoth s).conf = s.conf ∧
    (doffParkBoth s).n = s.n := by
  simp [doffParkBoth]

@[simp] theorem connectCarriage_keeps (sd : Side) (s : State) :
    (connectCarriage sd s).cfg = s.cfg ∧
    (connectCarriage sd s).ssc = s.ssc ∧
    (connectCarriage sd s).spt = s.spt ∧
    (connectCarriage sd s).pcn = s.pcn ∧
    (connectCarriage sd s).bdp = s.bdp ∧
    (connectCarriage sd s).cmn = s.cmn ∧
    (connectCarriage sd s).flc = s.flc ∧
    (connectCarriage sd s).bcu = s.bcu ∧
    (connectCarriage sd s).dsq = s.dsq ∧
    (connectCarriage sd s).stu = s.stu ∧
    (connectCarriage sd s).hpt = s.hpt ∧
    (connectCarriage sd s).atc = s.atc ∧
    (connectCarriage sd s).pins = s.pins ∧
    (connectCarriage sd s).free = s.free ∧
    (connectCarriage sd s).pending = s.pending ∧
    (connectCarriage sd s).conf = s.conf ∧
    (connectCarriage sd s).n = s.n := by
  simp [connectCarriage]

@[simp] theorem releaseCarriage_keeps (sd : Side) (s : State) :
    (releaseCarriage sd s).cfg = s.cfg ∧
    (releaseCarriage sd s).ssc = s.ssc ∧
    (releaseCarriage sd s).flc = s.flc ∧
    (releaseCarriage sd s).bcu = s.bcu ∧
    (releaseCarriage sd s).dsq = s.dsq ∧
    (releaseCarriage sd s).stu = s.stu ∧
    (releaseCarriage sd s).hpt = s.hpt ∧
    (releaseCarriage sd s).pins = s.pins ∧
    (releaseCarriage sd s).free = s.free ∧
    (releaseCarriage sd s).pending = s.pending ∧
    (releaseCarriage sd s).conf = s.conf ∧
    (releaseCarriage sd s).n = s.n := by
  simp [releaseCarriage]

end Sys2Proof.Machine
end

