-- ==== Sys2Proof/Laws/FramesFrame.lean ====
section
/-! SUPPORT. What each shared operation leaves unchanged: doffing, the trains, the scanner and the shifts. -/

namespace Sys2Proof.Machine

open Sys2Proof.Config

@[simp] theorem countDsq_keeps (f : DsqCounts → DsqCounts) (s : State) :
    (countDsq f s).cfg = s.cfg ∧
    (countDsq f s).ssc = s.ssc ∧
    (countDsq f s).spt = s.spt ∧
    (countDsq f s).pcn = s.pcn ∧
    (countDsq f s).bdp = s.bdp ∧
    (countDsq f s).clc = s.clc ∧
    (countDsq f s).cmn = s.cmn ∧
    (countDsq f s).flc = s.flc ∧
    (countDsq f s).bcu = s.bcu ∧
    (countDsq f s).stu = s.stu ∧
    (countDsq f s).hpt = s.hpt ∧
    (countDsq f s).atc = s.atc ∧
    (countDsq f s).pins = s.pins ∧
    (countDsq f s).free = s.free ∧
    (countDsq f s).pending = s.pending ∧
    (countDsq f s).dsq.phase = s.dsq.phase ∧
    (countDsq f s).conf = s.conf ∧
    (countDsq f s).n = s.n := by
  simp [countDsq]

@[simp] theorem enterDue_keeps (s : State) :
    (enterDue s).cfg = s.cfg ∧
    (enterDue s).ssc = s.ssc ∧
    (enterDue s).spt = s.spt ∧
    (enterDue s).pcn = s.pcn ∧
    (enterDue s).bdp = s.bdp ∧
    (enterDue s).clc = s.clc ∧
    (enterDue s).cmn = s.cmn ∧
    (enterDue s).flc = s.flc ∧
    (enterDue s).bcu = s.bcu ∧
    (enterDue s).stu = s.stu ∧
    (enterDue s).hpt = s.hpt ∧
    (enterDue s).pins = s.pins ∧
    (enterDue s).free = s.free ∧
    (enterDue s).pending = s.pending ∧
    (enterDue s).conf = s.conf ∧
    (enterDue s).n = s.n := by
  simp [enterDue]

@[simp] theorem enterPrewarn_keeps (s : State) :
    (enterPrewarn s).cfg = s.cfg ∧
    (enterPrewarn s).ssc = s.ssc ∧
    (enterPrewarn s).spt = s.spt ∧
    (enterPrewarn s).pcn = s.pcn ∧
    (enterPrewarn s).bdp = s.bdp ∧
    (enterPrewarn s).clc = s.clc ∧
    (enterPrewarn s).cmn = s.cmn ∧
    (enterPrewarn s).flc = s.flc ∧
    (enterPrewarn s).bcu = s.bcu ∧
    (enterPrewarn s).stu = s.stu ∧
    (enterPrewarn s).hpt = s.hpt ∧
    (enterPrewarn s).pins = s.pins ∧
    (enterPrewarn s).free = s.free ∧
    (enterPrewarn s).pending = s.pending ∧
    (enterPrewarn s).conf = s.conf ∧
    (enterPrewarn s).n = s.n := by
  simp [enterPrewarn]

@[simp] theorem formExpected_keeps (s : State) :
    (formExpected s).cfg = s.cfg ∧
    (formExpected s).ssc = s.ssc ∧
    (formExpected s).spt = s.spt ∧
    (formExpected s).pcn = s.pcn ∧
    (formExpected s).bdp = s.bdp ∧
    (formExpected s).clc = s.clc ∧
    (formExpected s).cmn = s.cmn ∧
    (formExpected s).flc = s.flc ∧
    (formExpected s).bcu = s.bcu ∧
    (formExpected s).stu = s.stu ∧
    (formExpected s).hpt = s.hpt ∧
    (formExpected s).atc = s.atc ∧
    (formExpected s).pins = s.pins ∧
    (formExpected s).free = s.free ∧
    (formExpected s).pending = s.pending ∧
    (formExpected s).dsq.phase = s.dsq.phase ∧
    (formExpected s).conf = s.conf ∧
    (formExpected s).n = s.n := by
  unfold formExpected
  dsimp only
  repeat' first
    | (solve | simp)
    | split

@[simp] theorem evaluateLevel_keeps (s : State) :
    (evaluateLevel s).cfg = s.cfg ∧
    (evaluateLevel s).ssc = s.ssc ∧
    (evaluateLevel s).spt = s.spt ∧
    (evaluateLevel s).pcn = s.pcn ∧
    (evaluateLevel s).bdp = s.bdp ∧
    (evaluateLevel s).clc = s.clc ∧
    (evaluateLevel s).cmn = s.cmn ∧
    (evaluateLevel s).flc = s.flc ∧
    (evaluateLevel s).bcu = s.bcu ∧
    (evaluateLevel s).stu = s.stu ∧
    (evaluateLevel s).hpt = s.hpt ∧
    (evaluateLevel s).pins = s.pins ∧
    (evaluateLevel s).free = s.free ∧
    (evaluateLevel s).pending = s.pending ∧
    (evaluateLevel s).conf = s.conf ∧
    (evaluateLevel s).n = s.n := by
  unfold evaluateLevel
  repeat' first
    | (solve | simp)
    | split

@[simp] theorem becomeOverfull_keeps (s : State) :
    (becomeOverfull s).cfg = s.cfg ∧
    (becomeOverfull s).ssc = s.ssc ∧
    (becomeOverfull s).spt = s.spt ∧
    (becomeOverfull s).pcn = s.pcn ∧
    (becomeOverfull s).bdp = s.bdp ∧
    (becomeOverfull s).clc = s.clc ∧
    (becomeOverfull s).cmn = s.cmn ∧
    (becomeOverfull s).stu = s.stu ∧
    (becomeOverfull s).hpt = s.hpt ∧
    (becomeOverfull s).pins = s.pins ∧
    (becomeOverfull s).pending = s.pending ∧
    (becomeOverfull s).flc.clock = s.flc.clock ∧
    (becomeOverfull s).flc.link = s.flc.link ∧
    (becomeOverfull s).flc.peers = s.flc.peers ∧
    (becomeOverfull s).conf = s.conf ∧
    (becomeOverfull s).n = s.n := by
  unfold becomeOverfull
  dsimp only
  repeat' first
    | (solve | simp)
    | split

@[simp] theorem overfullTest_keeps (s : State) :
    (overfullTest s).cfg = s.cfg ∧
    (overfullTest s).ssc = s.ssc ∧
    (overfullTest s).spt = s.spt ∧
    (overfullTest s).pcn = s.pcn ∧
    (overfullTest s).bdp = s.bdp ∧
    (overfullTest s).clc = s.clc ∧
    (overfullTest s).cmn = s.cmn ∧
    (overfullTest s).stu = s.stu ∧
    (overfullTest s).hpt = s.hpt ∧
    (overfullTest s).pins = s.pins ∧
    (overfullTest s).pending = s.pending ∧
    (overfullTest s).flc.clock = s.flc.clock ∧
    (overfullTest s).flc.link = s.flc.link ∧
    (overfullTest s).flc.peers = s.flc.peers ∧
    (overfullTest s).conf = s.conf ∧
    (overfullTest s).n = s.n := by
  unfold overfullTest
  repeat' first
    | (solve | simp)
    | split

@[simp] theorem claimIfDue_keeps (s : State) :
    (claimIfDue s).cfg = s.cfg ∧
    (claimIfDue s).ssc = s.ssc ∧
    (claimIfDue s).spt = s.spt ∧
    (claimIfDue s).pcn = s.pcn ∧
    (claimIfDue s).bdp = s.bdp ∧
    (claimIfDue s).clc = s.clc ∧
    (claimIfDue s).cmn = s.cmn ∧
    (claimIfDue s).stu = s.stu ∧
    (claimIfDue s).hpt = s.hpt ∧
    (claimIfDue s).atc = s.atc ∧
    (claimIfDue s).pins = s.pins ∧
    (claimIfDue s).pending = s.pending ∧
    (claimIfDue s).flc.clock = s.flc.clock ∧
    (claimIfDue s).flc.link = s.flc.link ∧
    (claimIfDue s).flc.peers = s.flc.peers ∧
    (claimIfDue s).conf = s.conf ∧
    (claimIfDue s).n = s.n := by
  unfold claimIfDue
  repeat' first
    | (solve | simp)
    | split

@[simp] theorem creditProgress_keeps (cycle : Nat) (s : State) :
    (creditProgress cycle s).cfg = s.cfg ∧
    (creditProgress cycle s).ssc = s.ssc ∧
    (creditProgress cycle s).spt = s.spt ∧
    (creditProgress cycle s).pcn = s.pcn ∧
    (creditProgress cycle s).bdp = s.bdp ∧
    (creditProgress cycle s).clc = s.clc ∧
    (creditProgress cycle s).cmn = s.cmn ∧
    (creditProgress cycle s).stu = s.stu ∧
    (creditProgress cycle s).hpt = s.hpt ∧
    (creditProgress cycle s).pins = s.pins ∧
    (creditProgress cycle s).pending = s.pending ∧
    (creditProgress cycle s).flc.clock = s.flc.clock ∧
    (creditProgress cycle s).flc.link = s.flc.link ∧
    (creditProgress cycle s).flc.peers = s.flc.peers ∧
    (creditProgress cycle s).conf = s.conf ∧
    (creditProgress cycle s).n = s.n := by
  simp [creditProgress]

@[simp] theorem forceDoff_keeps (s : State) :
    (forceDoff s).cfg = s.cfg ∧
    (forceDoff s).ssc = s.ssc ∧
    (forceDoff s).spt = s.spt ∧
    (forceDoff s).pcn = s.pcn ∧
    (forceDoff s).bdp = s.bdp ∧
    (forceDoff s).clc = s.clc ∧
    (forceDoff s).cmn = s.cmn ∧
    (forceDoff s).stu = s.stu ∧
    (forceDoff s).hpt = s.hpt ∧
    (forceDoff s).pins = s.pins ∧
    (forceDoff s).pending = s.pending ∧
    (forceDoff s).flc.clock = s.flc.clock ∧
    (forceDoff s).flc.link = s.flc.link ∧
    (forceDoff s).flc.peers = s.flc.peers ∧
    (forceDoff s).conf = s.conf ∧
    (forceDoff s).n = s.n := by
  simp [forceDoff]

@[simp] theorem enterDoffing_keeps (s : State) :
    (enterDoffing s).cfg = s.cfg ∧
    (enterDoffing s).ssc = s.ssc ∧
    (enterDoffing s).cmn = s.cmn ∧
    (enterDoffing s).flc = s.flc ∧
    (enterDoffing s).bcu = s.bcu ∧
    (enterDoffing s).stu = s.stu ∧
    (enterDoffing s).hpt = s.hpt ∧
    (enterDoffing s).pins = s.pins ∧
    (enterDoffing s).free = s.free ∧
    (enterDoffing s).pending = s.pending ∧
    (enterDoffing s).conf = s.conf ∧
    (enterDoffing s).n = s.n := by
  simp [enterDoffing]

@[simp] theorem doffWindowExpiry_keeps (s : State) :
    (doffWindowExpiry s).cfg = s.cfg ∧
    (doffWindowExpiry s).ssc = s.ssc ∧
    (doffWindowExpiry s).cmn = s.cmn ∧
    (doffWindowExpiry s).stu = s.stu ∧
    (doffWindowExpiry s).hpt = s.hpt ∧
    (doffWindowExpiry s).pins = s.pins ∧
    (doffWindowExpiry s).pending = s.pending ∧
    (doffWindowExpiry s).flc.clock = s.flc.clock ∧
    (doffWindowExpiry s).flc.link = s.flc.link ∧
    (doffWindowExpiry s).flc.peers = s.flc.peers ∧
    (doffWindowExpiry s).conf = s.conf ∧
    (doffWindowExpiry s).n = s.n := by
  unfold doffWindowExpiry
  dsimp only
  repeat' first
    | (solve | simp)
    | split

@[simp] theorem doffTimerExpiry_keeps (s : State) :
    (doffTimerExpiry s).cfg = s.cfg ∧
    (doffTimerExpiry s).ssc = s.ssc ∧
    (doffTimerExpiry s).spt = s.spt ∧
    (doffTimerExpiry s).pcn = s.pcn ∧
    (doffTimerExpiry s).bdp = s.bdp ∧
    (doffTimerExpiry s).clc = s.clc ∧
    (doffTimerExpiry s).cmn = s.cmn ∧
    (doffTimerExpiry s).flc = s.flc ∧
    (doffTimerExpiry s).bcu = s.bcu ∧
    (doffTimerExpiry s).stu = s.stu ∧
    (doffTimerExpiry s).hpt = s.hpt ∧
    (doffTimerExpiry s).pins = s.pins ∧
    (doffTimerExpiry s).free = s.free ∧
    (doffTimerExpiry s).pending = s.pending ∧
    (doffTimerExpiry s).dsq.phase = s.dsq.phase ∧
    (doffTimerExpiry s).conf = s.conf ∧
    (doffTimerExpiry s).n = s.n := by
  unfold doffTimerExpiry
  dsimp only
  repeat' first
    | (solve | simp)
    | split

@[simp] theorem beginEvaluation_keeps (s : State) :
    (beginEvaluation s).cfg = s.cfg ∧
    (beginEvaluation s).spt = s.spt ∧
    (beginEvaluation s).pcn = s.pcn ∧
    (beginEvaluation s).bdp = s.bdp ∧
    (beginEvaluation s).clc = s.clc ∧
    (beginEvaluation s).cmn = s.cmn ∧
    (beginEvaluation s).flc = s.flc ∧
    (beginEvaluation s).bcu = s.bcu ∧
    (beginEvaluation s).stu = s.stu ∧
    (beginEvaluation s).hpt = s.hpt ∧
    (beginEvaluation s).atc = s.atc ∧
    (beginEvaluation s).pins = s.pins ∧
    (beginEvaluation s).free = s.free ∧
    (beginEvaluation s).pending = s.pending ∧
    (beginEvaluation s).ssc.tier = s.ssc.tier ∧
    (beginEvaluation s).dsq.phase = s.dsq.phase ∧
    (beginEvaluation s).conf = s.conf ∧
    (beginEvaluation s).n = s.n := by
  simp [beginEvaluation]

@[simp] theorem endDoff_keeps (s : State) :
    (endDoff s).cfg = s.cfg ∧
    (endDoff s).pcn = s.pcn ∧
    (endDoff s).bdp = s.bdp ∧
    (endDoff s).clc = s.clc ∧
    (endDoff s).cmn = s.cmn ∧
    (endDoff s).bcu = s.bcu ∧
    (endDoff s).stu = s.stu ∧
    (endDoff s).hpt = s.hpt ∧
    (endDoff s).atc = s.atc ∧
    (endDoff s).pins = s.pins ∧
    (endDoff s).pending = s.pending ∧
    (endDoff s).flc.clock = s.flc.clock ∧
    (endDoff s).flc.link = s.flc.link ∧
    (endDoff s).flc.peers = s.flc.peers ∧
    (endDoff s).ssc.tier = s.ssc.tier ∧
    (endDoff s).conf = s.conf ∧
    (endDoff s).n = s.n := by
  simp [endDoff]

@[simp] theorem doffDoneEdge_keeps (s : State) :
    (doffDoneEdge s).cfg = s.cfg ∧
    (doffDoneEdge s).pcn = s.pcn ∧
    (doffDoneEdge s).bdp = s.bdp ∧
    (doffDoneEdge s).clc = s.clc ∧
    (doffDoneEdge s).cmn = s.cmn ∧
    (doffDoneEdge s).bcu = s.bcu ∧
    (doffDoneEdge s).stu = s.stu ∧
    (doffDoneEdge s).hpt = s.hpt ∧
    (doffDoneEdge s).atc = s.atc ∧
    (doffDoneEdge s).pins = s.pins ∧
    (doffDoneEdge s).pending = s.pending ∧
    (doffDoneEdge s).flc.clock = s.flc.clock ∧
    (doffDoneEdge s).flc.link = s.flc.link ∧
    (doffDoneEdge s).flc.peers = s.flc.peers ∧
    (doffDoneEdge s).ssc.tier = s.ssc.tier ∧
    (doffDoneEdge s).conf = s.conf ∧
    (doffDoneEdge s).n = s.n := by
  unfold doffDoneEdge
  repeat' first
    | (solve | simp)
    | split

@[simp] theorem endEvaluation_keeps (complete : Bool) (s : State) :
    (endEvaluation complete s).cfg = s.cfg ∧
    (endEvaluation complete s).ssc = s.ssc ∧
    (endEvaluation complete s).cmn = s.cmn ∧
    (endEvaluation complete s).flc = s.flc ∧
    (endEvaluation complete s).bcu = s.bcu ∧
    (endEvaluation complete s).stu = s.stu ∧
    (endEvaluation complete s).hpt = s.hpt ∧
    (endEvaluation complete s).pins = s.pins ∧
    (endEvaluation complete s).free = s.free ∧
    (endEvaluation complete s).pending = s.pending ∧
    (endEvaluation complete s).conf = s.conf ∧
    (endEvaluation complete s).n = s.n := by
  simp [endEvaluation]

@[simp] theorem passEnded_keeps (sd : Side) (p : Pass) (s : State) :
    (passEnded sd p s).cfg = s.cfg ∧
    (passEnded sd p s).ssc = s.ssc ∧
    (passEnded sd p s).cmn = s.cmn ∧
    (passEnded sd p s).flc = s.flc ∧
    (passEnded sd p s).bcu = s.bcu ∧
    (passEnded sd p s).stu = s.stu ∧
    (passEnded sd p s).hpt = s.hpt ∧
    (passEnded sd p s).pins = s.pins ∧
    (passEnded sd p s).free = s.free ∧
    (passEnded sd p s).pending = s.pending ∧
    (passEnded sd p s).conf = s.conf ∧
    (passEnded sd p s).n = s.n := by
  unfold passEnded
  dsimp only
  repeat' first
    | (solve | simp)
    | split

@[simp] theorem restartLimitExpiry_keeps (s : State) :
    (restartLimitExpiry s).cfg = s.cfg ∧
    (restartLimitExpiry s).ssc = s.ssc ∧
    (restartLimitExpiry s).cmn = s.cmn ∧
    (restartLimitExpiry s).flc = s.flc ∧
    (restartLimitExpiry s).bcu = s.bcu ∧
    (restartLimitExpiry s).stu = s.stu ∧
    (restartLimitExpiry s).hpt = s.hpt ∧
    (restartLimitExpiry s).pins = s.pins ∧
    (restartLimitExpiry s).free = s.free ∧
    (restartLimitExpiry s).pending = s.pending ∧
    (restartLimitExpiry s).conf = s.conf ∧
    (restartLimitExpiry s).n = s.n := by
  unfold restartLimitExpiry
  repeat' first
    | (solve | simp)
    | split

@[simp] theorem trainOffered_keeps (train : Nat) (s : State) :
    (trainOffered train s).cfg = s.cfg ∧
    (trainOffered train s).ssc = s.ssc ∧
    (trainOffered train s).spt = s.spt ∧
    (trainOffered train s).pcn = s.pcn ∧
    (trainOffered train s).bdp = s.bdp ∧
    (trainOffered train s).clc = s.clc ∧
    (trainOffered train s).dsq = s.dsq ∧
    (trainOffered train s).stu = s.stu ∧
    (trainOffered train s).hpt = s.hpt ∧
    (trainOffered train s).atc = s.atc ∧
    (trainOffered train s).pins = s.pins ∧
    (trainOffered train s).pending = s.pending ∧
    (trainOffered train s).flc.clock = s.flc.clock ∧
    (trainOffered train s).flc.link = s.flc.link ∧
    (trainOffered train s).flc.peers = s.flc.peers ∧
    (trainOffered train s).conf = s.conf ∧
    (trainOffered train s).n = s.n := by
  unfold trainOffered
  dsimp only
  repeat' first
    | (solve | simp)
    | split

@[simp] theorem waitEnded_keeps (index : Nat) (s : State) :
    (waitEnded index s).cfg = s.cfg ∧
    (waitEnded index s).ssc = s.ssc ∧
    (waitEnded index s).spt = s.spt ∧
    (waitEnded index s).pcn = s.pcn ∧
    (waitEnded index s).bdp = s.bdp ∧
    (waitEnded index s).clc = s.clc ∧
    (waitEnded index s).flc = s.flc ∧
    (waitEnded index s).bcu = s.bcu ∧
    (waitEnded index s).dsq = s.dsq ∧
    (waitEnded index s).stu = s.stu ∧
    (waitEnded index s).hpt = s.hpt ∧
    (waitEnded index s).pins = s.pins ∧
    (waitEnded index s).free = s.free ∧
    (waitEnded index s).pending = s.pending ∧
    (waitEnded index s).conf = s.conf ∧
    (waitEnded index s).n = s.n := by
  simp [waitEnded]

@[simp] theorem trainWithdrawn_keeps (train : Nat) (s : State) :
    (trainWithdrawn train s).cfg = s.cfg ∧
    (trainWithdrawn train s).ssc = s.ssc ∧
    (trainWithdrawn train s).spt = s.spt ∧
    (trainWithdrawn train s).pcn = s.pcn ∧
    (trainWithdrawn train s).bdp = s.bdp ∧
    (trainWithdrawn train s).clc = s.clc ∧
    (trainWithdrawn train s).flc = s.flc ∧
    (trainWithdrawn train s).bcu = s.bcu ∧
    (trainWithdrawn train s).dsq = s.dsq ∧
    (trainWithdrawn train s).stu = s.stu ∧
    (trainWithdrawn train s).hpt = s.hpt ∧
    (trainWithdrawn train s).pins = s.pins ∧
    (trainWithdrawn train s).free = s.free ∧
    (trainWithdrawn train s).pending = s.pending ∧
    (trainWithdrawn train s).conf = s.conf ∧
    (trainWithdrawn train s).n = s.n := by
  unfold trainWithdrawn
  repeat' first
    | (solve | simp)
    | split

@[simp] theorem trainWaitExpiry_keeps (index : Nat) (s : State) :
    (trainWaitExpiry index s).cfg = s.cfg ∧
    (trainWaitExpiry index s).ssc = s.ssc ∧
    (trainWaitExpiry index s).spt = s.spt ∧
    (trainWaitExpiry index s).pcn = s.pcn ∧
    (trainWaitExpiry index s).bdp = s.bdp ∧
    (trainWaitExpiry index s).clc = s.clc ∧
    (trainWaitExpiry index s).flc = s.flc ∧
    (trainWaitExpiry index s).bcu = s.bcu ∧
    (trainWaitExpiry index s).dsq = s.dsq ∧
    (trainWaitExpiry index s).stu = s.stu ∧
    (trainWaitExpiry index s).hpt = s.hpt ∧
    (trainWaitExpiry index s).pins = s.pins ∧
    (trainWaitExpiry index s).free = s.free ∧
    (trainWaitExpiry index s).pending = s.pending ∧
    (trainWaitExpiry index s).conf = s.conf ∧
    (trainWaitExpiry index s).n = s.n := by
  unfold trainWaitExpiry
  repeat' first
    | (solve | simp)
    | split

@[simp] theorem unexpectedDocking_keeps (s : State) :
    (unexpectedDocking s).cfg = s.cfg ∧
    (unexpectedDocking s).ssc = s.ssc ∧
    (unexpectedDocking s).spt = s.spt ∧
    (unexpectedDocking s).pcn = s.pcn ∧
    (unexpectedDocking s).bdp = s.bdp ∧
    (unexpectedDocking s).clc = s.clc ∧
    (unexpectedDocking s).flc = s.flc ∧
    (unexpectedDocking s).bcu = s.bcu ∧
    (unexpectedDocking s).dsq = s.dsq ∧
    (unexpectedDocking s).stu = s.stu ∧
    (unexpectedDocking s).hpt = s.hpt ∧
    (unexpectedDocking s).atc = s.atc ∧
    (unexpectedDocking s).pins = s.pins ∧
    (unexpectedDocking s).free = s.free ∧
    (unexpectedDocking s).pending = s.pending ∧
    (unexpectedDocking s).conf = s.conf ∧
    (unexpectedDocking s).n = s.n := by
  simp [unexpectedDocking]

@[simp] theorem dock_keeps (index : Nat) (s : State) :
    (dock index s).cfg = s.cfg ∧
    (dock index s).ssc = s.ssc ∧
    (dock index s).flc = s.flc ∧
    (dock index s).bcu = s.bcu ∧
    (dock index s).dsq = s.dsq ∧
    (dock index s).stu = s.stu ∧
    (dock index s).hpt = s.hpt ∧
    (dock index s).pins = s.pins ∧
    (dock index s).free = s.free ∧
    (dock index s).pending = s.pending ∧
    (dock index s).conf = s.conf ∧
    (dock index s).n = s.n := by
  simp [dock]

@[simp] theorem trainDocked_keeps (train station index : Nat) (s : State) :
    (trainDocked train station index s).cfg = s.cfg ∧
    (trainDocked train station index s).ssc = s.ssc ∧
    (trainDocked train station index s).flc = s.flc ∧
    (trainDocked train station index s).bcu = s.bcu ∧
    (trainDocked train station index s).dsq = s.dsq ∧
    (trainDocked train station index s).stu = s.stu ∧
    (trainDocked train station index s).hpt = s.hpt ∧
    (trainDocked train station index s).pins = s.pins ∧
    (trainDocked train station index s).free = s.free ∧
    (trainDocked train station index s).pending = s.pending ∧
    (trainDocked train station index s).conf = s.conf ∧
    (trainDocked train station index s).n = s.n := by
  unfold trainDocked
  repeat' first
    | (solve | simp)
    | split

@[simp] theorem creelMaxExpiry_keeps (index : Nat) (s : State) :
    (creelMaxExpiry index s).cfg = s.cfg ∧
    (creelMaxExpiry index s).ssc = s.ssc ∧
    (creelMaxExpiry index s).spt = s.spt ∧
    (creelMaxExpiry index s).pcn = s.pcn ∧
    (creelMaxExpiry index s).bdp = s.bdp ∧
    (creelMaxExpiry index s).clc = s.clc ∧
    (creelMaxExpiry index s).flc = s.flc ∧
    (creelMaxExpiry index s).bcu = s.bcu ∧
    (creelMaxExpiry index s).dsq = s.dsq ∧
    (creelMaxExpiry index s).stu = s.stu ∧
    (creelMaxExpiry index s).hpt = s.hpt ∧
    (creelMaxExpiry index s).pins = s.pins ∧
    (creelMaxExpiry index s).free = s.free ∧
    (creelMaxExpiry index s).pending = s.pending ∧
    (creelMaxExpiry index s).conf = s.conf ∧
    (creelMaxExpiry index s).n = s.n := by
  unfold creelMaxExpiry
  dsimp only
  repeat' first
    | (solve | simp)
    | split

@[simp] theorem endBid_keeps (index : Nat) (g : Group) (s : State) :
    (endBid index g s).cfg = s.cfg ∧
    (endBid index g s).ssc = s.ssc ∧
    (endBid index g s).spt = s.spt ∧
    (endBid index g s).pcn = s.pcn ∧
    (endBid index g s).bdp = s.bdp ∧
    (endBid index g s).clc = s.clc ∧
    (endBid index g s).flc = s.flc ∧
    (endBid index g s).dsq = s.dsq ∧
    (endBid index g s).stu = s.stu ∧
    (endBid index g s).hpt = s.hpt ∧
    (endBid index g s).atc = s.atc ∧
    (endBid index g s).pins = s.pins ∧
    (endBid index g s).free = s.free ∧
    (endBid index g s).pending = s.pending ∧
    (endBid index g s).conf = s.conf ∧
    (endBid index g s).n = s.n := by
  unfold endBid
  repeat' first
    | (solve | simp)
    | split

@[simp] theorem renewGroup_keeps (index : Nat) (s : State) :
    (renewGroup index s).cfg = s.cfg ∧
    (renewGroup index s).ssc = s.ssc ∧
    (renewGroup index s).flc = s.flc ∧
    (renewGroup index s).dsq = s.dsq ∧
    (renewGroup index s).stu = s.stu ∧
    (renewGroup index s).hpt = s.hpt ∧
    (renewGroup index s).pins = s.pins ∧
    (renewGroup index s).free = s.free ∧
    (renewGroup index s).pending = s.pending ∧
    (renewGroup index s).conf = s.conf ∧
    (renewGroup index s).n = s.n := by
  unfold renewGroup
  dsimp only
  repeat' first
    | (solve | simp)
    | split

@[simp] theorem creelDoneHeard_keeps (station index : Nat) (s : State) :
    (creelDoneHeard station index s).cfg = s.cfg ∧
    (creelDoneHeard station index s).ssc = s.ssc ∧
    (creelDoneHeard station index s).flc = s.flc ∧
    (creelDoneHeard station index s).dsq = s.dsq ∧
    (creelDoneHeard station index s).stu = s.stu ∧
    (creelDoneHeard station index s).hpt = s.hpt ∧
    (creelDoneHeard station index s).pins = s.pins ∧
    (creelDoneHeard station index s).free = s.free ∧
    (creelDoneHeard station index s).pending = s.pending ∧
    (creelDoneHeard station index s).conf = s.conf ∧
    (creelDoneHeard station index s).n = s.n := by
  unfold creelDoneHeard
  repeat' first
    | (solve | simp)
    | split

@[simp] theorem countSsc_keeps (f : SscCounts → SscCounts) (s : State) :
    (countSsc f s).cfg = s.cfg ∧
    (countSsc f s).spt = s.spt ∧
    (countSsc f s).pcn = s.pcn ∧
    (countSsc f s).bdp = s.bdp ∧
    (countSsc f s).clc = s.clc ∧
    (countSsc f s).cmn = s.cmn ∧
    (countSsc f s).flc = s.flc ∧
    (countSsc f s).bcu = s.bcu ∧
    (countSsc f s).dsq = s.dsq ∧
    (countSsc f s).stu = s.stu ∧
    (countSsc f s).hpt = s.hpt ∧
    (countSsc f s).atc = s.atc ∧
    (countSsc f s).pins = s.pins ∧
    (countSsc f s).free = s.free ∧
    (countSsc f s).pending = s.pending ∧
    (countSsc f s).ssc.tier = s.ssc.tier ∧
    (countSsc f s).conf = s.conf ∧
    (countSsc f s).n = s.n := by
  simp [countSsc]

@[simp] theorem startIdle_keeps (secs : Nat) (s : State) :
    (startIdle secs s).cfg = s.cfg ∧
    (startIdle secs s).spt = s.spt ∧
    (startIdle secs s).pcn = s.pcn ∧
    (startIdle secs s).bdp = s.bdp ∧
    (startIdle secs s).clc = s.clc ∧
    (startIdle secs s).cmn = s.cmn ∧
    (startIdle secs s).flc = s.flc ∧
    (startIdle secs s).bcu = s.bcu ∧
    (startIdle secs s).dsq = s.dsq ∧
    (startIdle secs s).stu = s.stu ∧
    (startIdle secs s).hpt = s.hpt ∧
    (startIdle secs s).atc = s.atc ∧
    (startIdle secs s).pins = s.pins ∧
    (startIdle secs s).free = s.free ∧
    (startIdle secs s).pending = s.pending ∧
    (startIdle secs s).ssc.tier = s.ssc.tier ∧
    (startIdle secs s).conf = s.conf ∧
    (startIdle secs s).n = s.n := by
  simp [startIdle]

@[simp] theorem startPass_keeps (sd : Side) (s : State) :
    (startPass sd s).cfg = s.cfg ∧
    (startPass sd s).spt = s.spt ∧
    (startPass sd s).pcn = s.pcn ∧
    (startPass sd s).bdp = s.bdp ∧
    (startPass sd s).clc = s.clc ∧
    (startPass sd s).cmn = s.cmn ∧
    (startPass sd s).flc = s.flc ∧
    (startPass sd s).bcu = s.bcu ∧
    (startPass sd s).dsq = s.dsq ∧
    (startPass sd s).stu = s.stu ∧
    (startPass sd s).hpt = s.hpt ∧
    (startPass sd s).atc = s.atc ∧
    (startPass sd s).pins = s.pins ∧
    (startPass sd s).free = s.free ∧
    (startPass sd s).pending = s.pending ∧
    (startPass sd s).ssc.tier = s.ssc.tier ∧
    (startPass sd s).conf = s.conf ∧
    (startPass sd s).n = s.n := by
  simp [startPass]

@[simp] theorem passTimerExpiry_keeps (sd : Side) (s : State) :
    (passTimerExpiry sd s).cfg = s.cfg ∧
    (passTimerExpiry sd s).spt = s.spt ∧
    (passTimerExpiry sd s).pcn = s.pcn ∧
    (passTimerExpiry sd s).bdp = s.bdp ∧
    (passTimerExpiry sd s).clc = s.clc ∧
    (passTimerExpiry sd s).cmn = s.cmn ∧
    (passTimerExpiry sd s).flc = s.flc ∧
    (passTimerExpiry sd s).bcu = s.bcu ∧
    (passTimerExpiry sd s).dsq = s.dsq ∧
    (passTimerExpiry sd s).stu = s.stu ∧
    (passTimerExpiry sd s).hpt = s.hpt ∧
    (passTimerExpiry sd s).atc = s.atc ∧
    (passTimerExpiry sd s).pins = s.pins ∧
    (passTimerExpiry sd s).free = s.free ∧
    (passTimerExpiry sd s).pending = s.pending ∧
    (passTimerExpiry sd s).ssc.tier = s.ssc.tier ∧
    (passTimerExpiry sd s).conf = s.conf ∧
    (passTimerExpiry sd s).n = s.n := by
  unfold passTimerExpiry
  dsimp only
  repeat' first
    | (solve | simp)
    | split

@[simp] theorem returnPass_keeps (sd : Side) (s : State) :
    (returnPass sd s).cfg = s.cfg ∧
    (returnPass sd s).spt = s.spt ∧
    (returnPass sd s).pcn = s.pcn ∧
    (returnPass sd s).bdp = s.bdp ∧
    (returnPass sd s).clc = s.clc ∧
    (returnPass sd s).cmn = s.cmn ∧
    (returnPass sd s).flc = s.flc ∧
    (returnPass sd s).bcu = s.bcu ∧
    (returnPass sd s).dsq = s.dsq ∧
    (returnPass sd s).stu = s.stu ∧
    (returnPass sd s).hpt = s.hpt ∧
    (returnPass sd s).atc = s.atc ∧
    (returnPass sd s).pins = s.pins ∧
    (returnPass sd s).free = s.free ∧
    (returnPass sd s).pending = s.pending ∧
    (returnPass sd s).ssc.tier = s.ssc.tier ∧
    (returnPass sd s).conf = s.conf ∧
    (returnPass sd s).n = s.n := by
  unfold returnPass
  dsimp only
  repeat' first
    | (solve | simp)
    | split

@[simp] theorem returnToRun_keeps (s : State) :
    (returnToRun s).cfg = s.cfg ∧
    (returnToRun s).pcn = s.pcn ∧
    (returnToRun s).cmn = s.cmn ∧
    (returnToRun s).flc = s.flc ∧
    (returnToRun s).bcu = s.bcu ∧
    (returnToRun s).dsq = s.dsq ∧
    (returnToRun s).stu = s.stu ∧
    (returnToRun s).hpt = s.hpt ∧
    (returnToRun s).atc = s.atc ∧
    (returnToRun s).pins = s.pins ∧
    (returnToRun s).free = s.free ∧
    (returnToRun s).pending = s.pending ∧
    (returnToRun s).conf = s.conf ∧
    (returnToRun s).n = s.n := by
  simp [returnToRun]

@[simp] theorem stayInRun_keeps (s : State) :
    (stayInRun s).cfg = s.cfg ∧
    (stayInRun s).pcn = s.pcn ∧
    (stayInRun s).cmn = s.cmn ∧
    (stayInRun s).flc = s.flc ∧
    (stayInRun s).bcu = s.bcu ∧
    (stayInRun s).dsq = s.dsq ∧
    (stayInRun s).stu = s.stu ∧
    (stayInRun s).hpt = s.hpt ∧
    (stayInRun s).atc = s.atc ∧
    (stayInRun s).pins = s.pins ∧
    (stayInRun s).free = s.free ∧
    (stayInRun s).pending = s.pending ∧
    (stayInRun s).conf = s.conf ∧
    (stayInRun s).n = s.n := by
  unfold stayInRun
  repeat' first
    | (solve | simp)
    | split

@[simp] theorem idleTimerExpiry_keeps (s : State) :
    (idleTimerExpiry s).cfg = s.cfg ∧
    (idleTimerExpiry s).spt = s.spt ∧
    (idleTimerExpiry s).pcn = s.pcn ∧
    (idleTimerExpiry s).bdp = s.bdp ∧
    (idleTimerExpiry s).cmn = s.cmn ∧
    (idleTimerExpiry s).flc = s.flc ∧
    (idleTimerExpiry s).bcu = s.bcu ∧
    (idleTimerExpiry s).dsq = s.dsq ∧
    (idleTimerExpiry s).stu = s.stu ∧
    (idleTimerExpiry s).hpt = s.hpt ∧
    (idleTimerExpiry s).atc = s.atc ∧
    (idleTimerExpiry s).pins = s.pins ∧
    (idleTimerExpiry s).free = s.free ∧
    (idleTimerExpiry s).pending = s.pending ∧
    (idleTimerExpiry s).conf = s.conf ∧
    (idleTimerExpiry s).n = s.n := by
  unfold idleTimerExpiry
  dsimp only
  repeat' first
    | (solve | simp)
    | split

@[simp] theorem driveRiseEdge_keeps (s : State) :
    (driveRiseEdge s).cfg = s.cfg ∧
    (driveRiseEdge s).pcn = s.pcn ∧
    (driveRiseEdge s).cmn = s.cmn ∧
    (driveRiseEdge s).flc = s.flc ∧
    (driveRiseEdge s).bcu = s.bcu ∧
    (driveRiseEdge s).dsq = s.dsq ∧
    (driveRiseEdge s).stu = s.stu ∧
    (driveRiseEdge s).hpt = s.hpt ∧
    (driveRiseEdge s).atc = s.atc ∧
    (driveRiseEdge s).pins = s.pins ∧
    (driveRiseEdge s).free = s.free ∧
    (driveRiseEdge s).pending = s.pending ∧
    (driveRiseEdge s).conf = s.conf ∧
    (driveRiseEdge s).n = s.n := by
  simp [driveRiseEdge]

@[simp] theorem driveFallEdge_keeps (s : State) :
    (driveFallEdge s).cfg = s.cfg ∧
    (driveFallEdge s).spt = s.spt ∧
    (driveFallEdge s).pcn = s.pcn ∧
    (driveFallEdge s).bdp = s.bdp ∧
    (driveFallEdge s).clc = s.clc ∧
    (driveFallEdge s).cmn = s.cmn ∧
    (driveFallEdge s).flc = s.flc ∧
    (driveFallEdge s).bcu = s.bcu ∧
    (driveFallEdge s).dsq = s.dsq ∧
    (driveFallEdge s).stu = s.stu ∧
    (driveFallEdge s).hpt = s.hpt ∧
    (driveFallEdge s).atc = s.atc ∧
    (driveFallEdge s).pins = s.pins ∧
    (driveFallEdge s).free = s.free ∧
    (driveFallEdge s).pending = s.pending ∧
    (driveFallEdge s).ssc.tier = s.ssc.tier ∧
    (driveFallEdge s).conf = s.conf ∧
    (driveFallEdge s).n = s.n := by
  simp [driveFallEdge]

@[simp] theorem deliver_keeps (sd : Side) (section_ f : Nat) (observed referenced : Bool) (s : State) :
    (deliver sd section_ f observed referenced s).cfg = s.cfg ∧
    (deliver sd section_ f observed referenced s).ssc = s.ssc ∧
    (deliver sd section_ f observed referenced s).bdp = s.bdp ∧
    (deliver sd section_ f observed referenced s).clc = s.clc ∧
    (deliver sd section_ f observed referenced s).stu = s.stu ∧
    (deliver sd section_ f observed referenced s).hpt = s.hpt ∧
    (deliver sd section_ f observed referenced s).pins = s.pins ∧
    (deliver sd section_ f observed referenced s).pending = s.pending ∧
    (deliver sd section_ f observed referenced s).flc.clock = s.flc.clock ∧
    (deliver sd section_ f observed referenced s).flc.link = s.flc.link ∧
    (deliver sd section_ f observed referenced s).flc.peers = s.flc.peers ∧
    (deliver sd section_ f observed referenced s).conf = s.conf ∧
    (deliver sd section_ f observed referenced s).n = s.n := by
  unfold deliver
  dsimp only
  repeat' first
    | (solve | simp)
    | split

@[simp] theorem takeSnapshots_keeps (sd : Side) (section_ : Nat) (s : State) :
    (takeSnapshots sd section_ s).cfg = s.cfg ∧
    (takeSnapshots sd section_ s).spt = s.spt ∧
    (takeSnapshots sd section_ s).pcn = s.pcn ∧
    (takeSnapshots sd section_ s).bdp = s.bdp ∧
    (takeSnapshots sd section_ s).clc = s.clc ∧
    (takeSnapshots sd section_ s).cmn = s.cmn ∧
    (takeSnapshots sd section_ s).flc = s.flc ∧
    (takeSnapshots sd section_ s).bcu = s.bcu ∧
    (takeSnapshots sd section_ s).dsq = s.dsq ∧
    (takeSnapshots sd section_ s).stu = s.stu ∧
    (takeSnapshots sd section_ s).hpt = s.hpt ∧
    (takeSnapshots sd section_ s).atc = s.atc ∧
    (takeSnapshots sd section_ s).pins = s.pins ∧
    (takeSnapshots sd section_ s).free = s.free ∧
    (takeSnapshots sd section_ s).pending = s.pending ∧
    (takeSnapshots sd section_ s).ssc.tier = s.ssc.tier ∧
    (takeSnapshots sd section_ s).conf = s.conf ∧
    (takeSnapshots sd section_ s).n = s.n := by
  simp [takeSnapshots]

@[simp] theorem countMiss_keeps (sd : Side) (section_ : Nat) (x : Section) (s : State) :
    (countMiss sd section_ x s).cfg = s.cfg ∧
    (countMiss sd section_ x s).spt = s.spt ∧
    (countMiss sd section_ x s).pcn = s.pcn ∧
    (countMiss sd section_ x s).bdp = s.bdp ∧
    (countMiss sd section_ x s).clc = s.clc ∧
    (countMiss sd section_ x s).cmn = s.cmn ∧
    (countMiss sd section_ x s).flc = s.flc ∧
    (countMiss sd section_ x s).bcu = s.bcu ∧
    (countMiss sd section_ x s).dsq = s.dsq ∧
    (countMiss sd section_ x s).stu = s.stu ∧
    (countMiss sd section_ x s).hpt = s.hpt ∧
    (countMiss sd section_ x s).pins = s.pins ∧
    (countMiss sd section_ x s).free = s.free ∧
    (countMiss sd section_ x s).pending = s.pending ∧
    (countMiss sd section_ x s).ssc.tier = s.ssc.tier ∧
    (countMiss sd section_ x s).conf = s.conf ∧
    (countMiss sd section_ x s).n = s.n := by
  unfold countMiss
  repeat' first
    | (solve | simp)
    | split

@[simp] theorem missedRead_keeps (sd : Side) (section_ : Nat) (garbled : Bool) (s : State) :
    (missedRead sd section_ garbled s).cfg = s.cfg ∧
    (missedRead sd section_ garbled s).bdp = s.bdp ∧
    (missedRead sd section_ garbled s).clc = s.clc ∧
    (missedRead sd section_ garbled s).stu = s.stu ∧
    (missedRead sd section_ garbled s).hpt = s.hpt ∧
    (missedRead sd section_ garbled s).pins = s.pins ∧
    (missedRead sd section_ garbled s).pending = s.pending ∧
    (missedRead sd section_ garbled s).flc.clock = s.flc.clock ∧
    (missedRead sd section_ garbled s).flc.link = s.flc.link ∧
    (missedRead sd section_ garbled s).flc.peers = s.flc.peers ∧
    (missedRead sd section_ garbled s).ssc.tier = s.ssc.tier ∧
    (missedRead sd section_ garbled s).conf = s.conf ∧
    (missedRead sd section_ garbled s).n = s.n := by
  unfold missedRead
  dsimp only
  repeat' first
    | (solve | simp)
    | split

@[simp] theorem takeCounts_keeps (sd : Side) (section_ : Nat) (counts : List W16) (s : State) :
    (takeCounts sd section_ counts s).cfg = s.cfg ∧
    (takeCounts sd section_ counts s).pcn = s.pcn ∧
    (takeCounts sd section_ counts s).bdp = s.bdp ∧
    (takeCounts sd section_ counts s).clc = s.clc ∧
    (takeCounts sd section_ counts s).cmn = s.cmn ∧
    (takeCounts sd section_ counts s).flc = s.flc ∧
    (takeCounts sd section_ counts s).bcu = s.bcu ∧
    (takeCounts sd section_ counts s).dsq = s.dsq ∧
    (takeCounts sd section_ counts s).stu = s.stu ∧
    (takeCounts sd section_ counts s).hpt = s.hpt ∧
    (takeCounts sd section_ counts s).atc = s.atc ∧
    (takeCounts sd section_ counts s).pins = s.pins ∧
    (takeCounts sd section_ counts s).free = s.free ∧
    (takeCounts sd section_ counts s).pending = s.pending ∧
    (takeCounts sd section_ counts s).ssc.tier = s.ssc.tier ∧
    (takeCounts sd section_ counts s).conf = s.conf ∧
    (takeCounts sd section_ counts s).n = s.n := by
  simp [takeCounts]

@[simp] theorem writeEvidence_keeps (sd : Side) (section_ pExp : Nat) (base : List W16) (a : NodeAnswer) (s : State) :
    (writeEvidence sd section_ pExp base a s).cfg = s.cfg ∧
    (writeEvidence sd section_ pExp base a s).ssc = s.ssc ∧
    (writeEvidence sd section_ pExp base a s).pcn = s.pcn ∧
    (writeEvidence sd section_ pExp base a s).bdp = s.bdp ∧
    (writeEvidence sd section_ pExp base a s).clc = s.clc ∧
    (writeEvidence sd section_ pExp base a s).cmn = s.cmn ∧
    (writeEvidence sd section_ pExp base a s).flc = s.flc ∧
    (writeEvidence sd section_ pExp base a s).bcu = s.bcu ∧
    (writeEvidence sd section_ pExp base a s).dsq = s.dsq ∧
    (writeEvidence sd section_ pExp base a s).stu = s.stu ∧
    (writeEvidence sd section_ pExp base a s).hpt = s.hpt ∧
    (writeEvidence sd section_ pExp base a s).atc = s.atc ∧
    (writeEvidence sd section_ pExp base a s).pins = s.pins ∧
    (writeEvidence sd section_ pExp base a s).free = s.free ∧
    (writeEvidence sd section_ pExp base a s).pending = s.pending ∧
    (writeEvidence sd section_ pExp base a s).conf = s.conf ∧
    (writeEvidence sd section_ pExp base a s).n = s.n := by
  simp [writeEvidence]

@[simp] theorem adjustStep_keeps (sd : Side) (section_ : Nat) (a : NodeAnswer) (s : State) :
    (adjustStep sd section_ a s).cfg = s.cfg ∧
    (adjustStep sd section_ a s).spt = s.spt ∧
    (adjustStep sd section_ a s).pcn = s.pcn ∧
    (adjustStep sd section_ a s).bdp = s.bdp ∧
    (adjustStep sd section_ a s).clc = s.clc ∧
    (adjustStep sd section_ a s).cmn = s.cmn ∧
    (adjustStep sd section_ a s).flc = s.flc ∧
    (adjustStep sd section_ a s).bcu = s.bcu ∧
    (adjustStep sd section_ a s).dsq = s.dsq ∧
    (adjustStep sd section_ a s).stu = s.stu ∧
    (adjustStep sd section_ a s).hpt = s.hpt ∧
    (adjustStep sd section_ a s).atc = s.atc ∧
    (adjustStep sd section_ a s).pins = s.pins ∧
    (adjustStep sd section_ a s).free = s.free ∧
    (adjustStep sd section_ a s).pending = s.pending ∧
    (adjustStep sd section_ a s).ssc.tier = s.ssc.tier ∧
    (adjustStep sd section_ a s).conf = s.conf ∧
    (adjustStep sd section_ a s).n = s.n := by
  simp [adjustStep]

@[simp] theorem probeRead_keeps (sd : Side) (section_ : Nat) (t : Nat) (f : Option Nat) (pExp : Nat) (ref : Bool) (base : List W16) (a : NodeAnswer) (s : State) :
    (probeRead sd section_ t f pExp ref base a s).cfg = s.cfg ∧
    (probeRead sd section_ t f pExp ref base a s).spt = s.spt ∧
    (probeRead sd section_ t f pExp ref base a s).pcn = s.pcn ∧
    (probeRead sd section_ t f pExp ref base a s).bdp = s.bdp ∧
    (probeRead sd section_ t f pExp ref base a s).clc = s.clc ∧
    (probeRead sd section_ t f pExp ref base a s).cmn = s.cmn ∧
    (probeRead sd section_ t f pExp ref base a s).flc = s.flc ∧
    (probeRead sd section_ t f pExp ref base a s).bcu = s.bcu ∧
    (probeRead sd section_ t f pExp ref base a s).dsq = s.dsq ∧
    (probeRead sd section_ t f pExp ref base a s).stu = s.stu ∧
    (probeRead sd section_ t f pExp ref base a s).hpt = s.hpt ∧
    (probeRead sd section_ t f pExp ref base a s).atc = s.atc ∧
    (probeRead sd section_ t f pExp ref base a s).pins = s.pins ∧
    (probeRead sd section_ t f pExp ref base a s).free = s.free ∧
    (probeRead sd section_ t f pExp ref base a s).pending = s.pending ∧
    (probeRead sd section_ t f pExp ref base a s).ssc.tier = s.ssc.tier ∧
    (probeRead sd section_ t f pExp ref base a s).conf = s.conf ∧
    (probeRead sd section_ t f pExp ref base a s).n = s.n := by
  unfold probeRead
  dsimp only
  repeat' first
    | (solve | simp)
    | split

@[simp] theorem answeredDelivery_keeps (sd : Side) (section_ : Nat) (f : Option Nat) (catchUp referenced : Bool) (s : State) :
    (answeredDelivery sd section_ f catchUp referenced s).cfg = s.cfg ∧
    (answeredDelivery sd section_ f catchUp referenced s).ssc = s.ssc ∧
    (answeredDelivery sd section_ f catchUp referenced s).bdp = s.bdp ∧
    (answeredDelivery sd section_ f catchUp referenced s).clc = s.clc ∧
    (answeredDelivery sd section_ f catchUp referenced s).stu = s.stu ∧
    (answeredDelivery sd section_ f catchUp referenced s).hpt = s.hpt ∧
    (answeredDelivery sd section_ f catchUp referenced s).pins = s.pins ∧
    (answeredDelivery sd section_ f catchUp referenced s).pending = s.pending ∧
    (answeredDelivery sd section_ f catchUp referenced s).flc.clock = s.flc.clock ∧
    (answeredDelivery sd section_ f catchUp referenced s).flc.link = s.flc.link ∧
    (answeredDelivery sd section_ f catchUp referenced s).flc.peers = s.flc.peers ∧
    (answeredDelivery sd section_ f catchUp referenced s).conf = s.conf ∧
    (answeredDelivery sd section_ f catchUp referenced s).n = s.n := by
  unfold answeredDelivery
  repeat' first
    | (solve | simp)
    | split

@[simp] theorem measuringRead_keeps (sd : Side) (section_ : Nat) (deltas : Option (Nat × Nat)) (base : List W16) (catchUp : Bool) (a : NodeAnswer) (s : State) :
    (measuringRead sd section_ deltas base catchUp a s).1.cfg = s.cfg ∧
    (measuringRead sd section_ deltas base catchUp a s).1.stu = s.stu ∧
    (measuringRead sd section_ deltas base catchUp a s).1.hpt = s.hpt ∧
    (measuringRead sd section_ deltas base catchUp a s).1.pins = s.pins ∧
    (measuringRead sd section_ deltas base catchUp a s).1.pending = s.pending ∧
    (measuringRead sd section_ deltas base catchUp a s).1.flc.clock = s.flc.clock ∧
    (measuringRead sd section_ deltas base catchUp a s).1.flc.link = s.flc.link ∧
    (measuringRead sd section_ deltas base catchUp a s).1.flc.peers = s.flc.peers ∧
    (measuringRead sd section_ deltas base catchUp a s).1.conf = s.conf ∧
    (measuringRead sd section_ deltas base catchUp a s).1.n = s.n := by
  unfold measuringRead
  dsimp only
  repeat' first
    | (solve | simp)
    | split

@[simp] theorem baseTakingRead_keeps (sd : Side) (section_ : Nat) (deltas : Option (Nat × Nat)) (catchUp : Bool) (a : NodeAnswer) (s : State) :
    (baseTakingRead sd section_ deltas catchUp a s).cfg = s.cfg ∧
    (baseTakingRead sd section_ deltas catchUp a s).bdp = s.bdp ∧
    (baseTakingRead sd section_ deltas catchUp a s).clc = s.clc ∧
    (baseTakingRead sd section_ deltas catchUp a s).stu = s.stu ∧
    (baseTakingRead sd section_ deltas catchUp a s).hpt = s.hpt ∧
    (baseTakingRead sd section_ deltas catchUp a s).pins = s.pins ∧
    (baseTakingRead sd section_ deltas catchUp a s).pending = s.pending ∧
    (baseTakingRead sd section_ deltas catchUp a s).flc.clock = s.flc.clock ∧
    (baseTakingRead sd section_ deltas catchUp a s).flc.link = s.flc.link ∧
    (baseTakingRead sd section_ deltas catchUp a s).flc.peers = s.flc.peers ∧
    (baseTakingRead sd section_ deltas catchUp a s).ssc.tier = s.ssc.tier ∧
    (baseTakingRead sd section_ deltas catchUp a s).conf = s.conf ∧
    (baseTakingRead sd section_ deltas catchUp a s).n = s.n := by
  simp [baseTakingRead]

@[simp] theorem answeredRead_keeps (sd : Side) (section_ : Nat) (a : NodeAnswer) (s : State) :
    (answeredRead sd section_ a s).1.cfg = s.cfg ∧
    (answeredRead sd section_ a s).1.stu = s.stu ∧
    (answeredRead sd section_ a s).1.hpt = s.hpt ∧
    (answeredRead sd section_ a s).1.pins = s.pins ∧
    (answeredRead sd section_ a s).1.pending = s.pending ∧
    (answeredRead sd section_ a s).1.flc.clock = s.flc.clock ∧
    (answeredRead sd section_ a s).1.flc.link = s.flc.link ∧
    (answeredRead sd section_ a s).1.flc.peers = s.flc.peers ∧
    (answeredRead sd section_ a s).1.conf = s.conf ∧
    (answeredRead sd section_ a s).1.n = s.n := by
  unfold answeredRead
  dsimp only
  repeat' first
    | (solve | simp)
    | split

@[simp] theorem endPass_keeps (sd : Side) (p : Pass) (s : State) :
    (endPass sd p s).cfg = s.cfg ∧
    (endPass sd p s).cmn = s.cmn ∧
    (endPass sd p s).flc = s.flc ∧
    (endPass sd p s).bcu = s.bcu ∧
    (endPass sd p s).stu = s.stu ∧
    (endPass sd p s).hpt = s.hpt ∧
    (endPass sd p s).pins = s.pins ∧
    (endPass sd p s).free = s.free ∧
    (endPass sd p s).pending = s.pending ∧
    (endPass sd p s).ssc.tier = s.ssc.tier ∧
    (endPass sd p s).conf = s.conf ∧
    (endPass sd p s).n = s.n := by
  unfold endPass
  dsimp only
  repeat' first
    | (solve | simp)
    | split

@[simp] theorem nextRead_keeps (sd : Side) (section_ : Nat) (referenced : Bool) (s : State) :
    (nextRead sd section_ referenced s).cfg = s.cfg ∧
    (nextRead sd section_ referenced s).cmn = s.cmn ∧
    (nextRead sd section_ referenced s).flc = s.flc ∧
    (nextRead sd section_ referenced s).bcu = s.bcu ∧
    (nextRead sd section_ referenced s).stu = s.stu ∧
    (nextRead sd section_ referenced s).hpt = s.hpt ∧
    (nextRead sd section_ referenced s).pins = s.pins ∧
    (nextRead sd section_ referenced s).free = s.free ∧
    (nextRead sd section_ referenced s).pending = s.pending ∧
    (nextRead sd section_ referenced s).ssc.tier = s.ssc.tier ∧
    (nextRead sd section_ referenced s).conf = s.conf ∧
    (nextRead sd section_ referenced s).n = s.n := by
  unfold nextRead
  dsimp only
  repeat' first
    | (solve | simp)
    | split

@[simp] theorem readAnswerTimeout_keeps (sd : Side) (s : State) :
    (readAnswerTimeout sd s).cfg = s.cfg ∧
    (readAnswerTimeout sd s).stu = s.stu ∧
    (readAnswerTimeout sd s).hpt = s.hpt ∧
    (readAnswerTimeout sd s).pins = s.pins ∧
    (readAnswerTimeout sd s).pending = s.pending ∧
    (readAnswerTimeout sd s).flc.clock = s.flc.clock ∧
    (readAnswerTimeout sd s).flc.link = s.flc.link ∧
    (readAnswerTimeout sd s).flc.peers = s.flc.peers ∧
    (readAnswerTimeout sd s).ssc.tier = s.ssc.tier ∧
    (readAnswerTimeout sd s).conf = s.conf ∧
    (readAnswerTimeout sd s).n = s.n := by
  unfold readAnswerTimeout
  dsimp only
  repeat' first
    | (solve | simp)
    | split

@[simp] theorem sectionReadAnswer_keeps (sd : Side) (bytes : List Byte) (s : State) :
    (sectionReadAnswer sd bytes s).cfg = s.cfg ∧
    (sectionReadAnswer sd bytes s).stu = s.stu ∧
    (sectionReadAnswer sd bytes s).hpt = s.hpt ∧
    (sectionReadAnswer sd bytes s).pins = s.pins ∧
    (sectionReadAnswer sd bytes s).pending = s.pending ∧
    (sectionReadAnswer sd bytes s).flc.clock = s.flc.clock ∧
    (sectionReadAnswer sd bytes s).flc.link = s.flc.link ∧
    (sectionReadAnswer sd bytes s).flc.peers = s.flc.peers ∧
    (sectionReadAnswer sd bytes s).conf = s.conf ∧
    (sectionReadAnswer sd bytes s).n = s.n := by
  unfold sectionReadAnswer
  dsimp only
  repeat' first
    | (solve | simp)
    | split

@[simp] theorem startScanner_keeps (s : State) :
    (startScanner s).cfg = s.cfg ∧
    (startScanner s).spt = s.spt ∧
    (startScanner s).pcn = s.pcn ∧
    (startScanner s).bdp = s.bdp ∧
    (startScanner s).clc = s.clc ∧
    (startScanner s).cmn = s.cmn ∧
    (startScanner s).flc = s.flc ∧
    (startScanner s).bcu = s.bcu ∧
    (startScanner s).dsq = s.dsq ∧
    (startScanner s).stu = s.stu ∧
    (startScanner s).hpt = s.hpt ∧
    (startScanner s).atc = s.atc ∧
    (startScanner s).pins = s.pins ∧
    (startScanner s).free = s.free ∧
    (startScanner s).pending = s.pending ∧
    (startScanner s).ssc.tier = s.ssc.tier ∧
    (startScanner s).conf = s.conf ∧
    (startScanner s).n = s.n := by
  simp [startScanner]

@[simp] theorem restartScanner_keeps (s : State) :
    (restartScanner s).cfg = s.cfg ∧
    (restartScanner s).spt = s.spt ∧
    (restartScanner s).pcn = s.pcn ∧
    (restartScanner s).bdp = s.bdp ∧
    (restartScanner s).clc = s.clc ∧
    (restartScanner s).cmn = s.cmn ∧
    (restartScanner s).flc = s.flc ∧
    (restartScanner s).bcu = s.bcu ∧
    (restartScanner s).dsq = s.dsq ∧
    (restartScanner s).stu = s.stu ∧
    (restartScanner s).hpt = s.hpt ∧
    (restartScanner s).atc = s.atc ∧
    (restartScanner s).pins = s.pins ∧
    (restartScanner s).free = s.free ∧
    (restartScanner s).pending = s.pending ∧
    (restartScanner s).conf = s.conf ∧
    (restartScanner s).n = s.n := by
  simp [restartScanner]

@[simp] theorem countStu_keeps (f : StuCounts → StuCounts) (s : State) :
    (countStu f s).cfg = s.cfg ∧
    (countStu f s).ssc = s.ssc ∧
    (countStu f s).spt = s.spt ∧
    (countStu f s).pcn = s.pcn ∧
    (countStu f s).bdp = s.bdp ∧
    (countStu f s).clc = s.clc ∧
    (countStu f s).cmn = s.cmn ∧
    (countStu f s).flc = s.flc ∧
    (countStu f s).bcu = s.bcu ∧
    (countStu f s).dsq = s.dsq ∧
    (countStu f s).hpt = s.hpt ∧
    (countStu f s).atc = s.atc ∧
    (countStu f s).pins = s.pins ∧
    (countStu f s).free = s.free ∧
    (countStu f s).pending = s.pending ∧
    (countStu f s).conf = s.conf ∧
    (countStu f s).n = s.n := by
  simp [countStu]

@[simp] theorem setShiftStart_keeps (t : Nat) (s : State) :
    (setShiftStart t s).cfg = s.cfg ∧
    (setShiftStart t s).ssc = s.ssc ∧
    (setShiftStart t s).spt = s.spt ∧
    (setShiftStart t s).bdp = s.bdp ∧
    (setShiftStart t s).clc = s.clc ∧
    (setShiftStart t s).cmn = s.cmn ∧
    (setShiftStart t s).flc = s.flc ∧
    (setShiftStart t s).bcu = s.bcu ∧
    (setShiftStart t s).dsq = s.dsq ∧
    (setShiftStart t s).stu = s.stu ∧
    (setShiftStart t s).hpt = s.hpt ∧
    (setShiftStart t s).atc = s.atc ∧
    (setShiftStart t s).pins = s.pins ∧
    (setShiftStart t s).free = s.free ∧
    (setShiftStart t s).pending = s.pending ∧
    (setShiftStart t s).conf = s.conf ∧
    (setShiftStart t s).n = s.n := by
  simp [setShiftStart]

@[simp] theorem numberShift_keeps (m : Nat) (s : State) :
    (numberShift m s).cfg = s.cfg ∧
    (numberShift m s).ssc = s.ssc ∧
    (numberShift m s).spt = s.spt ∧
    (numberShift m s).bdp = s.bdp ∧
    (numberShift m s).clc = s.clc ∧
    (numberShift m s).cmn = s.cmn ∧
    (numberShift m s).flc = s.flc ∧
    (numberShift m s).bcu = s.bcu ∧
    (numberShift m s).dsq = s.dsq ∧
    (numberShift m s).hpt = s.hpt ∧
    (numberShift m s).atc = s.atc ∧
    (numberShift m s).pins = s.pins ∧
    (numberShift m s).free = s.free ∧
    (numberShift m s).pending = s.pending ∧
    (numberShift m s).conf = s.conf ∧
    (numberShift m s).n = s.n := by
  simp [numberShift]

@[simp] theorem adopt_keeps (m : Nat) (s : State) :
    (adopt m s).cfg = s.cfg ∧
    (adopt m s).ssc = s.ssc ∧
    (adopt m s).spt = s.spt ∧
    (adopt m s).bdp = s.bdp ∧
    (adopt m s).clc = s.clc ∧
    (adopt m s).cmn = s.cmn ∧
    (adopt m s).flc = s.flc ∧
    (adopt m s).bcu = s.bcu ∧
    (adopt m s).dsq = s.dsq ∧
    (adopt m s).hpt = s.hpt ∧
    (adopt m s).atc = s.atc ∧
    (adopt m s).pins = s.pins ∧
    (adopt m s).free = s.free ∧
    (adopt m s).pending = s.pending ∧
    (adopt m s).conf = s.conf ∧
    (adopt m s).n = s.n := by
  simp [adopt]

@[simp] theorem selfNumber_keeps (s : State) :
    (selfNumber s).cfg = s.cfg ∧
    (selfNumber s).ssc = s.ssc ∧
    (selfNumber s).spt = s.spt ∧
    (selfNumber s).bdp = s.bdp ∧
    (selfNumber s).clc = s.clc ∧
    (selfNumber s).cmn = s.cmn ∧
    (selfNumber s).flc = s.flc ∧
    (selfNumber s).bcu = s.bcu ∧
    (selfNumber s).dsq = s.dsq ∧
    (selfNumber s).hpt = s.hpt ∧
    (selfNumber s).atc = s.atc ∧
    (selfNumber s).pins = s.pins ∧
    (selfNumber s).free = s.free ∧
    (selfNumber s).pending = s.pending ∧
    (selfNumber s).conf = s.conf ∧
    (selfNumber s).n = s.n := by
  unfold selfNumber
  repeat' first
    | (solve | simp)
    | split

@[simp] theorem closeShift_keeps (n : Nat) (s : State) :
    (closeShift n s).cfg = s.cfg ∧
    (closeShift n s).ssc = s.ssc ∧
    (closeShift n s).spt = s.spt ∧
    (closeShift n s).bdp = s.bdp ∧
    (closeShift n s).clc = s.clc ∧
    (closeShift n s).cmn = s.cmn ∧
    (closeShift n s).flc = s.flc ∧
    (closeShift n s).bcu = s.bcu ∧
    (closeShift n s).dsq = s.dsq ∧
    (closeShift n s).hpt = s.hpt ∧
    (closeShift n s).pins = s.pins ∧
    (closeShift n s).free = s.free ∧
    (closeShift n s).pending = s.pending ∧
    (closeShift n s).conf = s.conf ∧
    (closeShift n s).n = s.n := by
  simp [closeShift]

@[simp] theorem closeByTimer_keeps (s : State) :
    (closeByTimer s).cfg = s.cfg ∧
    (closeByTimer s).ssc = s.ssc ∧
    (closeByTimer s).spt = s.spt ∧
    (closeByTimer s).bdp = s.bdp ∧
    (closeByTimer s).clc = s.clc ∧
    (closeByTimer s).cmn = s.cmn ∧
    (closeByTimer s).bcu = s.bcu ∧
    (closeByTimer s).dsq = s.dsq ∧
    (closeByTimer s).hpt = s.hpt ∧
    (closeByTimer s).pins = s.pins ∧
    (closeByTimer s).pending = s.pending ∧
    (closeByTimer s).flc.clock = s.flc.clock ∧
    (closeByTimer s).flc.link = s.flc.link ∧
    (closeByTimer s).flc.peers = s.flc.peers ∧
    (closeByTimer s).conf = s.conf ∧
    (closeByTimer s).n = s.n := by
  simp [closeByTimer]

@[simp] theorem shiftEndTest_keeps (s : State) :
    (shiftEndTest s).cfg = s.cfg ∧
    (shiftEndTest s).ssc = s.ssc ∧
    (shiftEndTest s).spt = s.spt ∧
    (shiftEndTest s).bdp = s.bdp ∧
    (shiftEndTest s).clc = s.clc ∧
    (shiftEndTest s).cmn = s.cmn ∧
    (shiftEndTest s).bcu = s.bcu ∧
    (shiftEndTest s).dsq = s.dsq ∧
    (shiftEndTest s).hpt = s.hpt ∧
    (shiftEndTest s).pins = s.pins ∧
    (shiftEndTest s).pending = s.pending ∧
    (shiftEndTest s).flc.clock = s.flc.clock ∧
    (shiftEndTest s).flc.link = s.flc.link ∧
    (shiftEndTest s).flc.peers = s.flc.peers ∧
    (shiftEndTest s).conf = s.conf ∧
    (shiftEndTest s).n = s.n := by
  unfold shiftEndTest
  repeat' first
    | (solve | simp)
    | split

@[simp] theorem clockJumped_keeps (s : State) :
    (clockJumped s).cfg = s.cfg ∧
    (clockJumped s).ssc = s.ssc ∧
    (clockJumped s).cmn = s.cmn ∧
    (clockJumped s).bcu = s.bcu ∧
    (clockJumped s).dsq = s.dsq ∧
    (clockJumped s).hpt = s.hpt ∧
    (clockJumped s).pins = s.pins ∧
    (clockJumped s).pending = s.pending ∧
    (clockJumped s).flc.clock = s.flc.clock ∧
    (clockJumped s).flc.link = s.flc.link ∧
    (clockJumped s).flc.peers = s.flc.peers ∧
    (clockJumped s).conf = s.conf ∧
    (clockJumped s).n = s.n := by
  simp [clockJumped]

@[simp] theorem clockComesTo_keeps (t : Nat) (s : State) :
    (clockComesTo t s).cfg = s.cfg ∧
    (clockComesTo t s).ssc = s.ssc ∧
    (clockComesTo t s).cmn = s.cmn ∧
    (clockComesTo t s).bcu = s.bcu ∧
    (clockComesTo t s).dsq = s.dsq ∧
    (clockComesTo t s).hpt = s.hpt ∧
    (clockComesTo t s).pins = s.pins ∧
    (clockComesTo t s).pending = s.pending ∧
    (clockComesTo t s).flc.clock = max s.flc.clock t ∧
    (clockComesTo t s).flc.link = s.flc.link ∧
    (clockComesTo t s).flc.peers = s.flc.peers ∧
    (clockComesTo t s).conf = s.conf ∧
    (clockComesTo t s).n = s.n := by
  simp [clockComesTo]

@[simp] theorem wakeStampReached_keeps (sd : Side) (s : State) :
    (wakeStampReached sd s).cfg = s.cfg ∧
    (wakeStampReached sd s).ssc = s.ssc ∧
    (wakeStampReached sd s).cmn = s.cmn ∧
    (wakeStampReached sd s).bcu = s.bcu ∧
    (wakeStampReached sd s).dsq = s.dsq ∧
    (wakeStampReached sd s).hpt = s.hpt ∧
    (wakeStampReached sd s).pins = s.pins ∧
    (wakeStampReached sd s).pending = s.pending ∧
    (wakeStampReached sd s).flc.link = s.flc.link ∧
    (wakeStampReached sd s).flc.peers = s.flc.peers ∧
    (wakeStampReached sd s).conf = s.conf ∧
    (wakeStampReached sd s).n = s.n := by
  unfold wakeStampReached
  repeat' first
    | (solve | simp)
    | split

@[simp] theorem shiftEndReached_keeps (s : State) :
    (shiftEndReached s).cfg = s.cfg ∧
    (shiftEndReached s).ssc = s.ssc ∧
    (shiftEndReached s).cmn = s.cmn ∧
    (shiftEndReached s).bcu = s.bcu ∧
    (shiftEndReached s).dsq = s.dsq ∧
    (shiftEndReached s).hpt = s.hpt ∧
    (shiftEndReached s).pins = s.pins ∧
    (shiftEndReached s).pending = s.pending ∧
    (shiftEndReached s).flc.link = s.flc.link ∧
    (shiftEndReached s).flc.peers = s.flc.peers ∧
    (shiftEndReached s).conf = s.conf ∧
    (shiftEndReached s).n = s.n := by
  unfold shiftEndReached
  repeat' first
    | (solve | simp)
    | split

@[simp] theorem headerShift_keeps (m : Nat) (s : State) :
    (headerShift m s).cfg = s.cfg ∧
    (headerShift m s).ssc = s.ssc ∧
    (headerShift m s).spt = s.spt ∧
    (headerShift m s).bdp = s.bdp ∧
    (headerShift m s).clc = s.clc ∧
    (headerShift m s).cmn = s.cmn ∧
    (headerShift m s).flc = s.flc ∧
    (headerShift m s).bcu = s.bcu ∧
    (headerShift m s).dsq = s.dsq ∧
    (headerShift m s).hpt = s.hpt ∧
    (headerShift m s).pins = s.pins ∧
    (headerShift m s).free = s.free ∧
    (headerShift m s).pending = s.pending ∧
    (headerShift m s).conf = s.conf ∧
    (headerShift m s).n = s.n := by
  unfold headerShift
  dsimp only
  repeat' first
    | (solve | simp)
    | split

@[simp] theorem modRecord_keeps (shift : Nat) (f : ClosedRecord → ClosedRecord) (s : State) :
    (modRecord shift f s).cfg = s.cfg ∧
    (modRecord shift f s).ssc = s.ssc ∧
    (modRecord shift f s).spt = s.spt ∧
    (modRecord shift f s).pcn = s.pcn ∧
    (modRecord shift f s).bdp = s.bdp ∧
    (modRecord shift f s).clc = s.clc ∧
    (modRecord shift f s).cmn = s.cmn ∧
    (modRecord shift f s).flc = s.flc ∧
    (modRecord shift f s).bcu = s.bcu ∧
    (modRecord shift f s).dsq = s.dsq ∧
    (modRecord shift f s).hpt = s.hpt ∧
    (modRecord shift f s).atc = s.atc ∧
    (modRecord shift f s).pins = s.pins ∧
    (modRecord shift f s).free = s.free ∧
    (modRecord shift f s).pending = s.pending ∧
    (modRecord shift f s).conf = s.conf ∧
    (modRecord shift f s).n = s.n := by
  simp [modRecord]

@[simp] theorem reportTimerExpiry_keeps (shift : Nat) (s : State) :
    (reportTimerExpiry shift s).cfg = s.cfg ∧
    (reportTimerExpiry shift s).ssc = s.ssc ∧
    (reportTimerExpiry shift s).spt = s.spt ∧
    (reportTimerExpiry shift s).pcn = s.pcn ∧
    (reportTimerExpiry shift s).bdp = s.bdp ∧
    (reportTimerExpiry shift s).clc = s.clc ∧
    (reportTimerExpiry shift s).cmn = s.cmn ∧
    (reportTimerExpiry shift s).bcu = s.bcu ∧
    (reportTimerExpiry shift s).dsq = s.dsq ∧
    (reportTimerExpiry shift s).hpt = s.hpt ∧
    (reportTimerExpiry shift s).atc = s.atc ∧
    (reportTimerExpiry shift s).pins = s.pins ∧
    (reportTimerExpiry shift s).pending = s.pending ∧
    (reportTimerExpiry shift s).flc.clock = s.flc.clock ∧
    (reportTimerExpiry shift s).flc.link = s.flc.link ∧
    (reportTimerExpiry shift s).flc.peers = s.flc.peers ∧
    (reportTimerExpiry shift s).conf = s.conf ∧
    (reportTimerExpiry shift s).n = s.n := by
  unfold reportTimerExpiry
  repeat' first
    | (solve | simp)
    | split

@[simp] theorem shiftReportHeard_keeps (sender shift good mass : Nat) (s : State) :
    (shiftReportHeard sender shift good mass s).cfg = s.cfg ∧
    (shiftReportHeard sender shift good mass s).ssc = s.ssc ∧
    (shiftReportHeard sender shift good mass s).spt = s.spt ∧
    (shiftReportHeard sender shift good mass s).pcn = s.pcn ∧
    (shiftReportHeard sender shift good mass s).bdp = s.bdp ∧
    (shiftReportHeard sender shift good mass s).clc = s.clc ∧
    (shiftReportHeard sender shift good mass s).cmn = s.cmn ∧
    (shiftReportHeard sender shift good mass s).flc = s.flc ∧
    (shiftReportHeard sender shift good mass s).bcu = s.bcu ∧
    (shiftReportHeard sender shift good mass s).dsq = s.dsq ∧
    (shiftReportHeard sender shift good mass s).hpt = s.hpt ∧
    (shiftReportHeard sender shift good mass s).atc = s.atc ∧
    (shiftReportHeard sender shift good mass s).pins = s.pins ∧
    (shiftReportHeard sender shift good mass s).free = s.free ∧
    (shiftReportHeard sender shift good mass s).pending = s.pending ∧
    (shiftReportHeard sender shift good mass s).conf = s.conf ∧
    (shiftReportHeard sender shift good mass s).n = s.n := by
  unfold shiftReportHeard
  dsimp only
  repeat' first
    | (solve | simp)
    | split

@[simp] theorem shiftCloseHeard_keeps (s : State) :
    (shiftCloseHeard s).cfg = s.cfg ∧
    (shiftCloseHeard s).ssc = s.ssc ∧
    (shiftCloseHeard s).spt = s.spt ∧
    (shiftCloseHeard s).pcn = s.pcn ∧
    (shiftCloseHeard s).bdp = s.bdp ∧
    (shiftCloseHeard s).clc = s.clc ∧
    (shiftCloseHeard s).cmn = s.cmn ∧
    (shiftCloseHeard s).flc = s.flc ∧
    (shiftCloseHeard s).bcu = s.bcu ∧
    (shiftCloseHeard s).dsq = s.dsq ∧
    (shiftCloseHeard s).hpt = s.hpt ∧
    (shiftCloseHeard s).atc = s.atc ∧
    (shiftCloseHeard s).pins = s.pins ∧
    (shiftCloseHeard s).free = s.free ∧
    (shiftCloseHeard s).pending = s.pending ∧
    (shiftCloseHeard s).conf = s.conf ∧
    (shiftCloseHeard s).n = s.n := by
  simp [shiftCloseHeard]

end Sys2Proof.Machine
end

