-- ==== Sys2Proof/Laws/FramesPort.lean ====
section
/-! SUPPORT. What each shared operation leaves unchanged: the floor link, the host port and the millisecond. -/

namespace Sys2Proof.Machine

open Sys2Proof.Config

@[simp] theorem Served.plain_fields (st : Status) (s : State) :
    (Served.plain st s).state = s ∧ (Served.plain st s).status = st ∧
    (Served.plain st s).payload = .empty := ⟨rfl, rfl, rfl⟩

@[simp] theorem Served.shows_fields (p : Payload) (s : State) :
    (Served.shows p s).state = s ∧ (Served.shows p s).status = .ok ∧
    (Served.shows p s).payload = p := ⟨rfl, rfl, rfl⟩

@[simp] theorem countFlc_keeps (f : FlcCounts → FlcCounts) (s : State) :
    (countFlc f s).cfg = s.cfg ∧
    (countFlc f s).ssc = s.ssc ∧
    (countFlc f s).spt = s.spt ∧
    (countFlc f s).pcn = s.pcn ∧
    (countFlc f s).bdp = s.bdp ∧
    (countFlc f s).clc = s.clc ∧
    (countFlc f s).cmn = s.cmn ∧
    (countFlc f s).bcu = s.bcu ∧
    (countFlc f s).dsq = s.dsq ∧
    (countFlc f s).stu = s.stu ∧
    (countFlc f s).hpt = s.hpt ∧
    (countFlc f s).atc = s.atc ∧
    (countFlc f s).pins = s.pins ∧
    (countFlc f s).free = s.free ∧
    (countFlc f s).pending = s.pending ∧
    (countFlc f s).flc.clock = s.flc.clock ∧
    (countFlc f s).flc.link = s.flc.link ∧
    (countFlc f s).flc.peers = s.flc.peers ∧
    (countFlc f s).conf = s.conf ∧
    (countFlc f s).n = s.n := by
  simp [countFlc]

@[simp] theorem enterJoin_keeps (s : State) :
    (enterJoin s).cfg = s.cfg ∧
    (enterJoin s).ssc = s.ssc ∧
    (enterJoin s).spt = s.spt ∧
    (enterJoin s).pcn = s.pcn ∧
    (enterJoin s).bdp = s.bdp ∧
    (enterJoin s).clc = s.clc ∧
    (enterJoin s).cmn = s.cmn ∧
    (enterJoin s).bcu = s.bcu ∧
    (enterJoin s).dsq = s.dsq ∧
    (enterJoin s).stu = s.stu ∧
    (enterJoin s).hpt = s.hpt ∧
    (enterJoin s).atc = s.atc ∧
    (enterJoin s).pins = s.pins ∧
    (enterJoin s).free = s.free ∧
    (enterJoin s).pending = s.pending ∧
    (enterJoin s).flc.clock = s.flc.clock ∧
    (enterJoin s).flc.peers = s.flc.peers ∧
    (enterJoin s).conf = s.conf ∧
    (enterJoin s).n = s.n := by
  simp [enterJoin]

@[simp] theorem enterActive_keeps (s : State) :
    (enterActive s).cfg = s.cfg ∧
    (enterActive s).ssc = s.ssc ∧
    (enterActive s).spt = s.spt ∧
    (enterActive s).pcn = s.pcn ∧
    (enterActive s).bdp = s.bdp ∧
    (enterActive s).clc = s.clc ∧
    (enterActive s).cmn = s.cmn ∧
    (enterActive s).stu = s.stu ∧
    (enterActive s).hpt = s.hpt ∧
    (enterActive s).atc = s.atc ∧
    (enterActive s).pins = s.pins ∧
    (enterActive s).pending = s.pending ∧
    (enterActive s).flc.clock = s.flc.clock ∧
    (enterActive s).flc.peers = s.flc.peers ∧
    (enterActive s).conf = s.conf ∧
    (enterActive s).n = s.n := by
  simp [enterActive]

@[simp] theorem enterCautious_keeps (s : State) :
    (enterCautious s).cfg = s.cfg ∧
    (enterCautious s).ssc = s.ssc ∧
    (enterCautious s).spt = s.spt ∧
    (enterCautious s).pcn = s.pcn ∧
    (enterCautious s).bdp = s.bdp ∧
    (enterCautious s).clc = s.clc ∧
    (enterCautious s).cmn = s.cmn ∧
    (enterCautious s).bcu = s.bcu ∧
    (enterCautious s).dsq = s.dsq ∧
    (enterCautious s).stu = s.stu ∧
    (enterCautious s).hpt = s.hpt ∧
    (enterCautious s).pins = s.pins ∧
    (enterCautious s).free = s.free ∧
    (enterCautious s).pending = s.pending ∧
    (enterCautious s).flc.clock = s.flc.clock ∧
    (enterCautious s).flc.peers = s.flc.peers ∧
    (enterCautious s).conf = s.conf ∧
    (enterCautious s).n = s.n := by
  simp [enterCautious]

@[simp] theorem enterSilent_keeps (s : State) :
    (enterSilent s).cfg = s.cfg ∧
    (enterSilent s).ssc = s.ssc ∧
    (enterSilent s).spt = s.spt ∧
    (enterSilent s).pcn = s.pcn ∧
    (enterSilent s).bdp = s.bdp ∧
    (enterSilent s).clc = s.clc ∧
    (enterSilent s).stu = s.stu ∧
    (enterSilent s).hpt = s.hpt ∧
    (enterSilent s).pins = s.pins ∧
    (enterSilent s).pending = s.pending ∧
    (enterSilent s).flc.clock = s.flc.clock ∧
    (enterSilent s).flc.peers = s.flc.peers ∧
    (enterSilent s).conf = s.conf ∧
    (enterSilent s).n = s.n := by
  simp [enterSilent]

@[simp] theorem endSilent_keeps (s : State) :
    (endSilent s).cfg = s.cfg ∧
    (endSilent s).ssc = s.ssc ∧
    (endSilent s).spt = s.spt ∧
    (endSilent s).pcn = s.pcn ∧
    (endSilent s).bdp = s.bdp ∧
    (endSilent s).clc = s.clc ∧
    (endSilent s).cmn = s.cmn ∧
    (endSilent s).bcu = s.bcu ∧
    (endSilent s).dsq = s.dsq ∧
    (endSilent s).stu = s.stu ∧
    (endSilent s).hpt = s.hpt ∧
    (endSilent s).atc = s.atc ∧
    (endSilent s).pins = s.pins ∧
    (endSilent s).free = s.free ∧
    (endSilent s).pending = s.pending ∧
    (endSilent s).flc.clock = s.flc.clock ∧
    (endSilent s).flc.peers = s.flc.peers ∧
    (endSilent s).conf = s.conf ∧
    (endSilent s).n = s.n := by
  simp [endSilent]

@[simp] theorem enterConflict_keeps (s : State) :
    (enterConflict s).cfg = s.cfg ∧
    (enterConflict s).ssc = s.ssc ∧
    (enterConflict s).spt = s.spt ∧
    (enterConflict s).pcn = s.pcn ∧
    (enterConflict s).bdp = s.bdp ∧
    (enterConflict s).clc = s.clc ∧
    (enterConflict s).stu = s.stu ∧
    (enterConflict s).hpt = s.hpt ∧
    (enterConflict s).pins = s.pins ∧
    (enterConflict s).pending = s.pending ∧
    (enterConflict s).flc.clock = s.flc.clock ∧
    (enterConflict s).flc.peers = s.flc.peers ∧
    (enterConflict s).conf = s.conf ∧
    (enterConflict s).n = s.n := by
  simp [enterConflict]

@[simp] theorem healthTest_keeps (s : State) :
    (healthTest s).cfg = s.cfg ∧
    (healthTest s).ssc = s.ssc ∧
    (healthTest s).spt = s.spt ∧
    (healthTest s).pcn = s.pcn ∧
    (healthTest s).bdp = s.bdp ∧
    (healthTest s).clc = s.clc ∧
    (healthTest s).stu = s.stu ∧
    (healthTest s).hpt = s.hpt ∧
    (healthTest s).pins = s.pins ∧
    (healthTest s).pending = s.pending ∧
    (healthTest s).flc.clock = s.flc.clock ∧
    (healthTest s).flc.peers = s.flc.peers ∧
    (healthTest s).conf = s.conf ∧
    (healthTest s).n = s.n := by
  unfold healthTest
  repeat' first
    | (solve | simp)
    | split

@[simp] theorem raiseHealth_keeps (n : Nat) (s : State) :
    (raiseHealth n s).cfg = s.cfg ∧
    (raiseHealth n s).ssc = s.ssc ∧
    (raiseHealth n s).spt = s.spt ∧
    (raiseHealth n s).pcn = s.pcn ∧
    (raiseHealth n s).bdp = s.bdp ∧
    (raiseHealth n s).clc = s.clc ∧
    (raiseHealth n s).stu = s.stu ∧
    (raiseHealth n s).hpt = s.hpt ∧
    (raiseHealth n s).pins = s.pins ∧
    (raiseHealth n s).pending = s.pending ∧
    (raiseHealth n s).flc.clock = s.flc.clock ∧
    (raiseHealth n s).flc.peers = s.flc.peers ∧
    (raiseHealth n s).conf = s.conf ∧
    (raiseHealth n s).n = s.n := by
  simp [raiseHealth]

@[simp] theorem joinTimerExpiry_keeps (s : State) :
    (joinTimerExpiry s).cfg = s.cfg ∧
    (joinTimerExpiry s).ssc = s.ssc ∧
    (joinTimerExpiry s).spt = s.spt ∧
    (joinTimerExpiry s).bdp = s.bdp ∧
    (joinTimerExpiry s).clc = s.clc ∧
    (joinTimerExpiry s).hpt = s.hpt ∧
    (joinTimerExpiry s).pins = s.pins ∧
    (joinTimerExpiry s).pending = s.pending ∧
    (joinTimerExpiry s).flc.clock = s.flc.clock ∧
    (joinTimerExpiry s).flc.peers = s.flc.peers ∧
    (joinTimerExpiry s).conf = s.conf ∧
    (joinTimerExpiry s).n = s.n := by
  unfold joinTimerExpiry
  dsimp only
  repeat' first
    | (solve | simp)
    | split

@[simp] theorem silentTimerExpiry_keeps (s : State) :
    (silentTimerExpiry s).cfg = s.cfg ∧
    (silentTimerExpiry s).ssc = s.ssc ∧
    (silentTimerExpiry s).spt = s.spt ∧
    (silentTimerExpiry s).pcn = s.pcn ∧
    (silentTimerExpiry s).bdp = s.bdp ∧
    (silentTimerExpiry s).clc = s.clc ∧
    (silentTimerExpiry s).cmn = s.cmn ∧
    (silentTimerExpiry s).bcu = s.bcu ∧
    (silentTimerExpiry s).dsq = s.dsq ∧
    (silentTimerExpiry s).stu = s.stu ∧
    (silentTimerExpiry s).hpt = s.hpt ∧
    (silentTimerExpiry s).atc = s.atc ∧
    (silentTimerExpiry s).pins = s.pins ∧
    (silentTimerExpiry s).free = s.free ∧
    (silentTimerExpiry s).pending = s.pending ∧
    (silentTimerExpiry s).flc.clock = s.flc.clock ∧
    (silentTimerExpiry s).flc.peers = s.flc.peers ∧
    (silentTimerExpiry s).conf = s.conf ∧
    (silentTimerExpiry s).n = s.n := by
  unfold silentTimerExpiry
  repeat' first
    | (solve | simp)
    | split

@[simp] theorem beaconTimerExpiry_keeps (s : State) :
    (beaconTimerExpiry s).cfg = s.cfg ∧
    (beaconTimerExpiry s).ssc = s.ssc ∧
    (beaconTimerExpiry s).spt = s.spt ∧
    (beaconTimerExpiry s).pcn = s.pcn ∧
    (beaconTimerExpiry s).bdp = s.bdp ∧
    (beaconTimerExpiry s).clc = s.clc ∧
    (beaconTimerExpiry s).cmn = s.cmn ∧
    (beaconTimerExpiry s).bcu = s.bcu ∧
    (beaconTimerExpiry s).dsq = s.dsq ∧
    (beaconTimerExpiry s).stu = s.stu ∧
    (beaconTimerExpiry s).hpt = s.hpt ∧
    (beaconTimerExpiry s).atc = s.atc ∧
    (beaconTimerExpiry s).pins = s.pins ∧
    (beaconTimerExpiry s).pending = s.pending ∧
    (beaconTimerExpiry s).flc.clock = s.flc.clock ∧
    (beaconTimerExpiry s).flc.link = s.flc.link ∧
    (beaconTimerExpiry s).flc.peers = s.flc.peers ∧
    (beaconTimerExpiry s).conf = s.conf ∧
    (beaconTimerExpiry s).n = s.n := by
  unfold beaconTimerExpiry
  dsimp only
  repeat' first
    | (solve | simp)
    | split

@[simp] theorem collision_keeps (s : State) :
    (collision s).cfg = s.cfg ∧
    (collision s).ssc = s.ssc ∧
    (collision s).spt = s.spt ∧
    (collision s).pcn = s.pcn ∧
    (collision s).bdp = s.bdp ∧
    (collision s).clc = s.clc ∧
    (collision s).stu = s.stu ∧
    (collision s).hpt = s.hpt ∧
    (collision s).pins = s.pins ∧
    (collision s).pending = s.pending ∧
    (collision s).flc.clock = s.flc.clock ∧
    (collision s).flc.peers = s.flc.peers ∧
    (collision s).conf = s.conf ∧
    (collision s).n = s.n := by
  unfold collision
  dsimp only
  repeat' first
    | (solve | simp)
    | split

@[simp] theorem cleanSend_keeps (s : State) :
    (cleanSend s).cfg = s.cfg ∧
    (cleanSend s).ssc = s.ssc ∧
    (cleanSend s).spt = s.spt ∧
    (cleanSend s).pcn = s.pcn ∧
    (cleanSend s).bdp = s.bdp ∧
    (cleanSend s).clc = s.clc ∧
    (cleanSend s).stu = s.stu ∧
    (cleanSend s).hpt = s.hpt ∧
    (cleanSend s).pins = s.pins ∧
    (cleanSend s).pending = s.pending ∧
    (cleanSend s).flc.clock = s.flc.clock ∧
    (cleanSend s).flc.peers = s.flc.peers ∧
    (cleanSend s).conf = s.conf ∧
    (cleanSend s).n = s.n := by
  unfold cleanSend
  dsimp only
  repeat' first
    | (solve | simp)
    | split

@[simp] theorem adjustClock_keeps (stamp : Nat) (s : State) :
    (adjustClock stamp s).cfg = s.cfg ∧
    (adjustClock stamp s).ssc = s.ssc ∧
    (adjustClock stamp s).cmn = s.cmn ∧
    (adjustClock stamp s).bcu = s.bcu ∧
    (adjustClock stamp s).dsq = s.dsq ∧
    (adjustClock stamp s).hpt = s.hpt ∧
    (adjustClock stamp s).pins = s.pins ∧
    (adjustClock stamp s).pending = s.pending ∧
    (adjustClock stamp s).flc.link = s.flc.link ∧
    (adjustClock stamp s).flc.peers = s.flc.peers ∧
    (adjustClock stamp s).conf = s.conf ∧
    (adjustClock stamp s).n = s.n := by
  unfold adjustClock
  dsimp only
  repeat' first
    | (solve | simp)
    | split

@[simp] theorem setPeers_keeps (ps : List Peer) (s : State) :
    (setPeers ps s).cfg = s.cfg ∧
    (setPeers ps s).ssc = s.ssc ∧
    (setPeers ps s).spt = s.spt ∧
    (setPeers ps s).pcn = s.pcn ∧
    (setPeers ps s).bdp = s.bdp ∧
    (setPeers ps s).clc = s.clc ∧
    (setPeers ps s).cmn = s.cmn ∧
    (setPeers ps s).bcu = s.bcu ∧
    (setPeers ps s).dsq = s.dsq ∧
    (setPeers ps s).stu = s.stu ∧
    (setPeers ps s).hpt = s.hpt ∧
    (setPeers ps s).atc = s.atc ∧
    (setPeers ps s).pins = s.pins ∧
    (setPeers ps s).free = s.free ∧
    (setPeers ps s).pending = s.pending ∧
    (setPeers ps s).flc.clock = s.flc.clock ∧
    (setPeers ps s).flc.link = s.flc.link ∧
    (setPeers ps s).conf = s.conf ∧
    (setPeers ps s).n = s.n := by
  simp [setPeers]

@[simp] theorem touchPeer_keeps (f : Frame) (s : State) :
    (touchPeer f s).cfg = s.cfg ∧
    (touchPeer f s).ssc = s.ssc ∧
    (touchPeer f s).spt = s.spt ∧
    (touchPeer f s).pcn = s.pcn ∧
    (touchPeer f s).bdp = s.bdp ∧
    (touchPeer f s).clc = s.clc ∧
    (touchPeer f s).cmn = s.cmn ∧
    (touchPeer f s).bcu = s.bcu ∧
    (touchPeer f s).dsq = s.dsq ∧
    (touchPeer f s).stu = s.stu ∧
    (touchPeer f s).hpt = s.hpt ∧
    (touchPeer f s).atc = s.atc ∧
    (touchPeer f s).pins = s.pins ∧
    (touchPeer f s).free = s.free ∧
    (touchPeer f s).pending = s.pending ∧
    (touchPeer f s).flc.clock = s.flc.clock ∧
    (touchPeer f s).flc.link = s.flc.link ∧
    (touchPeer f s).conf = s.conf ∧
    (touchPeer f s).n = s.n := by
  unfold touchPeer
  dsimp only
  repeat' first
    | (solve | simp)
    | split

@[simp] theorem updatePeers_keeps (f : Frame) (s : State) :
    (updatePeers f s).cfg = s.cfg ∧
    (updatePeers f s).ssc = s.ssc ∧
    (updatePeers f s).spt = s.spt ∧
    (updatePeers f s).pcn = s.pcn ∧
    (updatePeers f s).bdp = s.bdp ∧
    (updatePeers f s).clc = s.clc ∧
    (updatePeers f s).cmn = s.cmn ∧
    (updatePeers f s).stu = s.stu ∧
    (updatePeers f s).hpt = s.hpt ∧
    (updatePeers f s).atc = s.atc ∧
    (updatePeers f s).pins = s.pins ∧
    (updatePeers f s).pending = s.pending ∧
    (updatePeers f s).flc.clock = s.flc.clock ∧
    (updatePeers f s).flc.link = s.flc.link ∧
    (updatePeers f s).conf = s.conf ∧
    (updatePeers f s).n = s.n := by
  unfold updatePeers
  dsimp only
  repeat' first
    | (solve | simp)
    | split

@[simp] theorem peerTimerExpiry_keeps (id : Nat) (s : State) :
    (peerTimerExpiry id s).cfg = s.cfg ∧
    (peerTimerExpiry id s).ssc = s.ssc ∧
    (peerTimerExpiry id s).spt = s.spt ∧
    (peerTimerExpiry id s).pcn = s.pcn ∧
    (peerTimerExpiry id s).bdp = s.bdp ∧
    (peerTimerExpiry id s).clc = s.clc ∧
    (peerTimerExpiry id s).cmn = s.cmn ∧
    (peerTimerExpiry id s).stu = s.stu ∧
    (peerTimerExpiry id s).hpt = s.hpt ∧
    (peerTimerExpiry id s).atc = s.atc ∧
    (peerTimerExpiry id s).pins = s.pins ∧
    (peerTimerExpiry id s).pending = s.pending ∧
    (peerTimerExpiry id s).flc.clock = s.flc.clock ∧
    (peerTimerExpiry id s).flc.link = s.flc.link ∧
    (peerTimerExpiry id s).conf = s.conf ∧
    (peerTimerExpiry id s).n = s.n := by
  unfold peerTimerExpiry
  repeat' first
    | (solve | simp)
    | split

@[simp] theorem staleTimerExpiry_keeps (id : Nat) (item : StaleItem) (s : State) :
    (staleTimerExpiry id item s).cfg = s.cfg ∧
    (staleTimerExpiry id item s).ssc = s.ssc ∧
    (staleTimerExpiry id item s).spt = s.spt ∧
    (staleTimerExpiry id item s).pcn = s.pcn ∧
    (staleTimerExpiry id item s).bdp = s.bdp ∧
    (staleTimerExpiry id item s).clc = s.clc ∧
    (staleTimerExpiry id item s).cmn = s.cmn ∧
    (staleTimerExpiry id item s).stu = s.stu ∧
    (staleTimerExpiry id item s).hpt = s.hpt ∧
    (staleTimerExpiry id item s).atc = s.atc ∧
    (staleTimerExpiry id item s).pins = s.pins ∧
    (staleTimerExpiry id item s).pending = s.pending ∧
    (staleTimerExpiry id item s).flc.clock = s.flc.clock ∧
    (staleTimerExpiry id item s).flc.link = s.flc.link ∧
    (staleTimerExpiry id item s).conf = s.conf ∧
    (staleTimerExpiry id item s).n = s.n := by
  unfold staleTimerExpiry
  repeat' first
    | (solve | simp)
    | split

@[simp] theorem deliverContent_keeps (f : Frame) (s : State) :
    (deliverContent f s).cfg = s.cfg ∧
    (deliverContent f s).ssc = s.ssc ∧
    (deliverContent f s).dsq = s.dsq ∧
    (deliverContent f s).hpt = s.hpt ∧
    (deliverContent f s).pins = s.pins ∧
    (deliverContent f s).pending = s.pending ∧
    (deliverContent f s).flc.clock = s.flc.clock ∧
    (deliverContent f s).flc.link = s.flc.link ∧
    (deliverContent f s).flc.peers = s.flc.peers ∧
    (deliverContent f s).conf = s.conf ∧
    (deliverContent f s).n = s.n := by
  unfold deliverContent
  repeat' first
    | (solve | simp)
    | split

@[simp] theorem acceptMessage_keeps (f : Frame) (s : State) :
    (acceptMessage f s).cfg = s.cfg ∧
    (acceptMessage f s).ssc = s.ssc ∧
    (acceptMessage f s).hpt = s.hpt ∧
    (acceptMessage f s).pins = s.pins ∧
    (acceptMessage f s).pending = s.pending ∧
    (acceptMessage f s).flc.link = s.flc.link ∧
    (acceptMessage f s).conf = s.conf ∧
    (acceptMessage f s).n = s.n := by
  unfold acceptMessage
  dsimp only
  repeat' first
    | (solve | simp)
    | split

@[simp] theorem ownIdHeard_keeps (s : State) :
    (ownIdHeard s).cfg = s.cfg ∧
    (ownIdHeard s).ssc = s.ssc ∧
    (ownIdHeard s).spt = s.spt ∧
    (ownIdHeard s).pcn = s.pcn ∧
    (ownIdHeard s).bdp = s.bdp ∧
    (ownIdHeard s).clc = s.clc ∧
    (ownIdHeard s).stu = s.stu ∧
    (ownIdHeard s).hpt = s.hpt ∧
    (ownIdHeard s).pins = s.pins ∧
    (ownIdHeard s).pending = s.pending ∧
    (ownIdHeard s).flc.clock = s.flc.clock ∧
    (ownIdHeard s).flc.peers = s.flc.peers ∧
    (ownIdHeard s).conf = s.conf ∧
    (ownIdHeard s).n = s.n := by
  unfold ownIdHeard
  repeat' first
    | (solve | simp)
    | split

@[simp] theorem filterFrame_keeps (bytes : List Byte) (s : State) :
    (filterFrame bytes s).cfg = s.cfg ∧
    (filterFrame bytes s).ssc = s.ssc ∧
    (filterFrame bytes s).hpt = s.hpt ∧
    (filterFrame bytes s).pins = s.pins ∧
    (filterFrame bytes s).pending = s.pending ∧
    (filterFrame bytes s).conf = s.conf ∧
    (filterFrame bytes s).n = s.n := by
  unfold filterFrame
  repeat' first
    | (solve | simp)
    | split

@[simp] theorem countGood_keeps (s : State) :
    (countGood s).cfg = s.cfg ∧
    (countGood s).ssc = s.ssc ∧
    (countGood s).spt = s.spt ∧
    (countGood s).pcn = s.pcn ∧
    (countGood s).bdp = s.bdp ∧
    (countGood s).clc = s.clc ∧
    (countGood s).cmn = s.cmn ∧
    (countGood s).bcu = s.bcu ∧
    (countGood s).dsq = s.dsq ∧
    (countGood s).stu = s.stu ∧
    (countGood s).hpt = s.hpt ∧
    (countGood s).atc = s.atc ∧
    (countGood s).pins = s.pins ∧
    (countGood s).free = s.free ∧
    (countGood s).pending = s.pending ∧
    (countGood s).flc.clock = s.flc.clock ∧
    (countGood s).flc.peers = s.flc.peers ∧
    (countGood s).conf = s.conf ∧
    (countGood s).n = s.n := by
  unfold countGood
  dsimp only
  repeat' first
    | (solve | simp)
    | split

@[simp] theorem floorFrameReceived_keeps (bytes : List Byte) (stopBitsOk : Bool) (s : State) :
    (floorFrameReceived bytes stopBitsOk s).cfg = s.cfg ∧
    (floorFrameReceived bytes stopBitsOk s).ssc = s.ssc ∧
    (floorFrameReceived bytes stopBitsOk s).hpt = s.hpt ∧
    (floorFrameReceived bytes stopBitsOk s).pins = s.pins ∧
    (floorFrameReceived bytes stopBitsOk s).pending = s.pending ∧
    (floorFrameReceived bytes stopBitsOk s).conf = s.conf ∧
    (floorFrameReceived bytes stopBitsOk s).n = s.n := by
  unfold floorFrameReceived
  repeat' first
    | (solve | simp)
    | split

@[simp] theorem restartLink_keeps (s : State) :
    (restartLink s).cfg = s.cfg ∧
    (restartLink s).ssc = s.ssc ∧
    (restartLink s).spt = s.spt ∧
    (restartLink s).pcn = s.pcn ∧
    (restartLink s).bdp = s.bdp ∧
    (restartLink s).clc = s.clc ∧
    (restartLink s).cmn = s.cmn ∧
    (restartLink s).bcu = s.bcu ∧
    (restartLink s).dsq = s.dsq ∧
    (restartLink s).stu = s.stu ∧
    (restartLink s).hpt = s.hpt ∧
    (restartLink s).atc = s.atc ∧
    (restartLink s).pins = s.pins ∧
    (restartLink s).free = s.free ∧
    (restartLink s).pending = s.pending ∧
    (restartLink s).flc.clock = s.flc.clock ∧
    (restartLink s).conf = s.conf ∧
    (restartLink s).n = s.n := by
  simp [restartLink]

@[simp] theorem modHpt_keeps (f : Hpt → Hpt) (s : State) :
    (modHpt f s).cfg = s.cfg ∧
    (modHpt f s).ssc = s.ssc ∧
    (modHpt f s).spt = s.spt ∧
    (modHpt f s).pcn = s.pcn ∧
    (modHpt f s).bdp = s.bdp ∧
    (modHpt f s).clc = s.clc ∧
    (modHpt f s).cmn = s.cmn ∧
    (modHpt f s).flc = s.flc ∧
    (modHpt f s).bcu = s.bcu ∧
    (modHpt f s).dsq = s.dsq ∧
    (modHpt f s).stu = s.stu ∧
    (modHpt f s).atc = s.atc ∧
    (modHpt f s).pins = s.pins ∧
    (modHpt f s).free = s.free ∧
    (modHpt f s).pending = s.pending ∧
    (modHpt f s).conf = s.conf ∧
    (modHpt f s).n = s.n := by
  simp [modHpt]

@[simp] theorem setAnswer_keeps (code : Byte) (st : Status) (p : Payload) (bytes : List Byte) (s : State) :
    (setAnswer code st p bytes s).cfg = s.cfg ∧
    (setAnswer code st p bytes s).ssc = s.ssc ∧
    (setAnswer code st p bytes s).spt = s.spt ∧
    (setAnswer code st p bytes s).pcn = s.pcn ∧
    (setAnswer code st p bytes s).bdp = s.bdp ∧
    (setAnswer code st p bytes s).clc = s.clc ∧
    (setAnswer code st p bytes s).cmn = s.cmn ∧
    (setAnswer code st p bytes s).flc = s.flc ∧
    (setAnswer code st p bytes s).bcu = s.bcu ∧
    (setAnswer code st p bytes s).dsq = s.dsq ∧
    (setAnswer code st p bytes s).stu = s.stu ∧
    (setAnswer code st p bytes s).atc = s.atc ∧
    (setAnswer code st p bytes s).pins = s.pins ∧
    (setAnswer code st p bytes s).free = s.free ∧
    (setAnswer code st p bytes s).pending = s.pending ∧
    (setAnswer code st p bytes s).conf = s.conf ∧
    (setAnswer code st p bytes s).n = s.n := by
  simp [setAnswer]

@[simp] theorem reply_keeps (code : Byte) (st : Status) (p : Payload) (s : State) :
    (reply code st p s).cfg = s.cfg ∧
    (reply code st p s).ssc = s.ssc ∧
    (reply code st p s).spt = s.spt ∧
    (reply code st p s).pcn = s.pcn ∧
    (reply code st p s).bdp = s.bdp ∧
    (reply code st p s).clc = s.clc ∧
    (reply code st p s).cmn = s.cmn ∧
    (reply code st p s).flc = s.flc ∧
    (reply code st p s).bcu = s.bcu ∧
    (reply code st p s).dsq = s.dsq ∧
    (reply code st p s).stu = s.stu ∧
    (reply code st p s).atc = s.atc ∧
    (reply code st p s).pins = s.pins ∧
    (reply code st p s).pending = s.pending ∧
    (reply code st p s).conf = s.conf ∧
    (reply code st p s).n = s.n := by
  unfold reply
  repeat' first
    | (solve | simp)
    | split

@[simp] theorem discardCurrent_keeps (s : State) :
    (discardCurrent s).cfg = s.cfg ∧
    (discardCurrent s).ssc = s.ssc ∧
    (discardCurrent s).spt = s.spt ∧
    (discardCurrent s).pcn = s.pcn ∧
    (discardCurrent s).bdp = s.bdp ∧
    (discardCurrent s).clc = s.clc ∧
    (discardCurrent s).cmn = s.cmn ∧
    (discardCurrent s).flc = s.flc ∧
    (discardCurrent s).bcu = s.bcu ∧
    (discardCurrent s).dsq = s.dsq ∧
    (discardCurrent s).stu = s.stu ∧
    (discardCurrent s).atc = s.atc ∧
    (discardCurrent s).pins = s.pins ∧
    (discardCurrent s).free = s.free ∧
    (discardCurrent s).pending = s.pending ∧
    (discardCurrent s).conf = s.conf ∧
    (discardCurrent s).n = s.n := by
  simp [discardCurrent]

@[simp] theorem ignoreWrite_keeps (s : State) :
    (ignoreWrite s).cfg = s.cfg ∧
    (ignoreWrite s).ssc = s.ssc ∧
    (ignoreWrite s).spt = s.spt ∧
    (ignoreWrite s).pcn = s.pcn ∧
    (ignoreWrite s).bdp = s.bdp ∧
    (ignoreWrite s).clc = s.clc ∧
    (ignoreWrite s).cmn = s.cmn ∧
    (ignoreWrite s).flc = s.flc ∧
    (ignoreWrite s).bcu = s.bcu ∧
    (ignoreWrite s).dsq = s.dsq ∧
    (ignoreWrite s).stu = s.stu ∧
    (ignoreWrite s).atc = s.atc ∧
    (ignoreWrite s).pins = s.pins ∧
    (ignoreWrite s).free = s.free ∧
    (ignoreWrite s).pending = s.pending ∧
    (ignoreWrite s).conf = s.conf ∧
    (ignoreWrite s).n = s.n := by
  simp [ignoreWrite]

@[simp] theorem configureCarriage_keeps (c : Cfg) (sd : Side) (s : State) :
    (configureCarriage c sd s).cfg = s.cfg ∧
    (configureCarriage c sd s).ssc = s.ssc ∧
    (configureCarriage c sd s).spt = s.spt ∧
    (configureCarriage c sd s).pcn = s.pcn ∧
    (configureCarriage c sd s).bdp = s.bdp ∧
    (configureCarriage c sd s).cmn = s.cmn ∧
    (configureCarriage c sd s).flc = s.flc ∧
    (configureCarriage c sd s).bcu = s.bcu ∧
    (configureCarriage c sd s).dsq = s.dsq ∧
    (configureCarriage c sd s).stu = s.stu ∧
    (configureCarriage c sd s).hpt = s.hpt ∧
    (configureCarriage c sd s).atc = s.atc ∧
    (configureCarriage c sd s).pins = s.pins ∧
    (configureCarriage c sd s).free = s.free ∧
    (configureCarriage c sd s).pending = s.pending ∧
    (configureCarriage c sd s).conf = s.conf ∧
    (configureCarriage c sd s).n = s.n := by
  unfold configureCarriage
  repeat' first
    | (solve | simp)
    | split

@[simp] theorem configureBlocks_keeps (c : Cfg) (s : State) :
    (configureBlocks c s).bcu = s.bcu ∧
    (configureBlocks c s).dsq = s.dsq ∧
    (configureBlocks c s).stu = s.stu ∧
    (configureBlocks c s).hpt = s.hpt ∧
    (configureBlocks c s).pins = s.pins ∧
    (configureBlocks c s).free = s.free ∧
    (configureBlocks c s).pending = s.pending ∧
    (configureBlocks c s).flc.clock = s.flc.clock ∧
    (configureBlocks c s).flc.peers = s.flc.peers ∧
    (configureBlocks c s).ssc.tier = s.ssc.tier := by
  simp [configureBlocks]

@[simp] theorem ruleConfigure_keeps (p : List Byte) (s : State) :
    (ruleConfigure p s).state.bcu = s.bcu ∧
    (ruleConfigure p s).state.dsq = s.dsq ∧
    (ruleConfigure p s).state.stu = s.stu ∧
    (ruleConfigure p s).state.hpt = s.hpt ∧
    (ruleConfigure p s).state.pins = s.pins ∧
    (ruleConfigure p s).state.free = s.free ∧
    (ruleConfigure p s).state.pending = s.pending ∧
    (ruleConfigure p s).state.flc.clock = s.flc.clock ∧
    (ruleConfigure p s).state.flc.peers = s.flc.peers ∧
    (ruleConfigure p s).state.ssc.tier = s.ssc.tier := by
  unfold ruleConfigure
  dsimp only
  repeat' first
    | (solve | simp)
    | split

@[simp] theorem State.lookAtDoffDone_keeps (s : State) :
    s.lookAtDoffDone.cfg = s.cfg ∧
    s.lookAtDoffDone.ssc = s.ssc ∧
    s.lookAtDoffDone.spt = s.spt ∧
    s.lookAtDoffDone.pcn = s.pcn ∧
    s.lookAtDoffDone.bdp = s.bdp ∧
    s.lookAtDoffDone.clc = s.clc ∧
    s.lookAtDoffDone.cmn = s.cmn ∧
    s.lookAtDoffDone.flc = s.flc ∧
    s.lookAtDoffDone.bcu = s.bcu ∧
    s.lookAtDoffDone.dsq = s.dsq ∧
    s.lookAtDoffDone.stu = s.stu ∧
    s.lookAtDoffDone.hpt = s.hpt ∧
    s.lookAtDoffDone.atc = s.atc ∧
    s.lookAtDoffDone.pending = s.pending ∧
    s.lookAtDoffDone.conf = s.conf ∧
    s.lookAtDoffDone.n = s.n ∧
    s.lookAtDoffDone.pins.driveRun = s.pins.driveRun ∧
    (s.pins.doffDone = false → s.lookAtDoffDone.pins = s.pins) := by
  refine ⟨rfl, rfl, rfl, rfl, rfl, rfl, rfl, rfl, rfl, rfl, rfl, rfl, rfl, rfl, rfl, rfl, rfl, fun h => ?_⟩
  cases hp : s.pins
  simp_all [State.lookAtDoffDone, State.doffDoneLevel]

@[simp] theorem ruleReadStatus_keeps (p : List Byte) (s : State) :
    (ruleReadStatus p s).state.cfg = s.cfg ∧
    (ruleReadStatus p s).state.ssc = s.ssc ∧
    (ruleReadStatus p s).state.spt = s.spt ∧
    (ruleReadStatus p s).state.pcn = s.pcn ∧
    (ruleReadStatus p s).state.bdp = s.bdp ∧
    (ruleReadStatus p s).state.clc = s.clc ∧
    (ruleReadStatus p s).state.cmn = s.cmn ∧
    (ruleReadStatus p s).state.flc = s.flc ∧
    (ruleReadStatus p s).state.bcu = s.bcu ∧
    (ruleReadStatus p s).state.dsq = s.dsq ∧
    (ruleReadStatus p s).state.stu = s.stu ∧
    (ruleReadStatus p s).state.hpt = s.hpt ∧
    (ruleReadStatus p s).state.atc = s.atc ∧
    (ruleReadStatus p s).state.pending = s.pending ∧
    (ruleReadStatus p s).state.conf = s.conf ∧
    (ruleReadStatus p s).state.n = s.n := by
  simp [ruleReadStatus]

@[simp] theorem ruleReadDelta_keeps (p : List Byte) (s : State) :
    (ruleReadDelta p s).state.cfg = s.cfg ∧
    (ruleReadDelta p s).state.ssc = s.ssc ∧
    (ruleReadDelta p s).state.spt = s.spt ∧
    (ruleReadDelta p s).state.bdp = s.bdp ∧
    (ruleReadDelta p s).state.clc = s.clc ∧
    (ruleReadDelta p s).state.cmn = s.cmn ∧
    (ruleReadDelta p s).state.flc = s.flc ∧
    (ruleReadDelta p s).state.bcu = s.bcu ∧
    (ruleReadDelta p s).state.dsq = s.dsq ∧
    (ruleReadDelta p s).state.stu = s.stu ∧
    (ruleReadDelta p s).state.hpt = s.hpt ∧
    (ruleReadDelta p s).state.atc = s.atc ∧
    (ruleReadDelta p s).state.pins = s.pins ∧
    (ruleReadDelta p s).state.free = s.free ∧
    (ruleReadDelta p s).state.pending = s.pending ∧
    (ruleReadDelta p s).state.conf = s.conf ∧
    (ruleReadDelta p s).state.n = s.n := by
  simp [ruleReadDelta]

@[simp] theorem ruleReadProbe_keeps (p : List Byte) (s : State) :
    (ruleReadProbe p s).state.cfg = s.cfg ∧
    (ruleReadProbe p s).state.spt = s.spt ∧
    (ruleReadProbe p s).state.pcn = s.pcn ∧
    (ruleReadProbe p s).state.bdp = s.bdp ∧
    (ruleReadProbe p s).state.clc = s.clc ∧
    (ruleReadProbe p s).state.cmn = s.cmn ∧
    (ruleReadProbe p s).state.flc = s.flc ∧
    (ruleReadProbe p s).state.bcu = s.bcu ∧
    (ruleReadProbe p s).state.dsq = s.dsq ∧
    (ruleReadProbe p s).state.stu = s.stu ∧
    (ruleReadProbe p s).state.hpt = s.hpt ∧
    (ruleReadProbe p s).state.atc = s.atc ∧
    (ruleReadProbe p s).state.pins = s.pins ∧
    (ruleReadProbe p s).state.free = s.free ∧
    (ruleReadProbe p s).state.pending = s.pending ∧
    (ruleReadProbe p s).state.ssc.tier = s.ssc.tier ∧
    (ruleReadProbe p s).state.conf = s.conf ∧
    (ruleReadProbe p s).state.n = s.n := by
  simp [ruleReadProbe]

@[simp] theorem ruleCopySpindles_keeps (p : List Byte) (s : State) :
    (ruleCopySpindles p s).state.cfg = s.cfg ∧
    (ruleCopySpindles p s).state.ssc = s.ssc ∧
    (ruleCopySpindles p s).state.spt = s.spt ∧
    (ruleCopySpindles p s).state.pcn = s.pcn ∧
    (ruleCopySpindles p s).state.bdp = s.bdp ∧
    (ruleCopySpindles p s).state.clc = s.clc ∧
    (ruleCopySpindles p s).state.cmn = s.cmn ∧
    (ruleCopySpindles p s).state.flc = s.flc ∧
    (ruleCopySpindles p s).state.bcu = s.bcu ∧
    (ruleCopySpindles p s).state.dsq = s.dsq ∧
    (ruleCopySpindles p s).state.stu = s.stu ∧
    (ruleCopySpindles p s).state.atc = s.atc ∧
    (ruleCopySpindles p s).state.pins = s.pins ∧
    (ruleCopySpindles p s).state.free = s.free ∧
    (ruleCopySpindles p s).state.pending = s.pending ∧
    (ruleCopySpindles p s).state.conf = s.conf ∧
    (ruleCopySpindles p s).state.n = s.n := by
  unfold ruleCopySpindles
  dsimp only
  repeat' first
    | (solve | simp)
    | split

@[simp] theorem ruleCopyNext_keeps (p : List Byte) (s : State) :
    (ruleCopyNext p s).state.cfg = s.cfg ∧
    (ruleCopyNext p s).state.ssc = s.ssc ∧
    (ruleCopyNext p s).state.spt = s.spt ∧
    (ruleCopyNext p s).state.pcn = s.pcn ∧
    (ruleCopyNext p s).state.bdp = s.bdp ∧
    (ruleCopyNext p s).state.clc = s.clc ∧
    (ruleCopyNext p s).state.cmn = s.cmn ∧
    (ruleCopyNext p s).state.flc = s.flc ∧
    (ruleCopyNext p s).state.bcu = s.bcu ∧
    (ruleCopyNext p s).state.dsq = s.dsq ∧
    (ruleCopyNext p s).state.stu = s.stu ∧
    (ruleCopyNext p s).state.atc = s.atc ∧
    (ruleCopyNext p s).state.pins = s.pins ∧
    (ruleCopyNext p s).state.free = s.free ∧
    (ruleCopyNext p s).state.pending = s.pending ∧
    (ruleCopyNext p s).state.conf = s.conf ∧
    (ruleCopyNext p s).state.n = s.n := by
  unfold ruleCopyNext
  repeat' first
    | (solve | simp)
    | split

@[simp] theorem ruleClearOutcomes_keeps (p : List Byte) (s : State) :
    (ruleClearOutcomes p s).state.cfg = s.cfg ∧
    (ruleClearOutcomes p s).state.ssc = s.ssc ∧
    (ruleClearOutcomes p s).state.spt = s.spt ∧
    (ruleClearOutcomes p s).state.pcn = s.pcn ∧
    (ruleClearOutcomes p s).state.bdp = s.bdp ∧
    (ruleClearOutcomes p s).state.cmn = s.cmn ∧
    (ruleClearOutcomes p s).state.flc = s.flc ∧
    (ruleClearOutcomes p s).state.bcu = s.bcu ∧
    (ruleClearOutcomes p s).state.dsq = s.dsq ∧
    (ruleClearOutcomes p s).state.stu = s.stu ∧
    (ruleClearOutcomes p s).state.hpt = s.hpt ∧
    (ruleClearOutcomes p s).state.atc = s.atc ∧
    (ruleClearOutcomes p s).state.pins = s.pins ∧
    (ruleClearOutcomes p s).state.free = s.free ∧
    (ruleClearOutcomes p s).state.pending = s.pending ∧
    (ruleClearOutcomes p s).state.conf = s.conf ∧
    (ruleClearOutcomes p s).state.n = s.n := by
  unfold ruleClearOutcomes onSide
  repeat' first
    | (solve | simp)
    | split

@[simp] theorem connectSide_keeps (sd : Side) (s : State) :
    (connectSide sd s).state.cfg = s.cfg ∧
    (connectSide sd s).state.ssc = s.ssc ∧
    (connectSide sd s).state.spt = s.spt ∧
    (connectSide sd s).state.pcn = s.pcn ∧
    (connectSide sd s).state.bdp = s.bdp ∧
    (connectSide sd s).state.cmn = s.cmn ∧
    (connectSide sd s).state.flc = s.flc ∧
    (connectSide sd s).state.bcu = s.bcu ∧
    (connectSide sd s).state.dsq = s.dsq ∧
    (connectSide sd s).state.stu = s.stu ∧
    (connectSide sd s).state.hpt = s.hpt ∧
    (connectSide sd s).state.atc = s.atc ∧
    (connectSide sd s).state.pins = s.pins ∧
    (connectSide sd s).state.free = s.free ∧
    (connectSide sd s).state.pending = s.pending ∧
    (connectSide sd s).state.conf = s.conf ∧
    (connectSide sd s).state.n = s.n := by
  unfold connectSide
  repeat' first
    | (solve | simp)
    | split

@[simp] theorem ruleCarriageConnect_keeps (p : List Byte) (s : State) :
    (ruleCarriageConnect p s).state.cfg = s.cfg ∧
    (ruleCarriageConnect p s).state.ssc = s.ssc ∧
    (ruleCarriageConnect p s).state.spt = s.spt ∧
    (ruleCarriageConnect p s).state.pcn = s.pcn ∧
    (ruleCarriageConnect p s).state.bdp = s.bdp ∧
    (ruleCarriageConnect p s).state.cmn = s.cmn ∧
    (ruleCarriageConnect p s).state.flc = s.flc ∧
    (ruleCarriageConnect p s).state.bcu = s.bcu ∧
    (ruleCarriageConnect p s).state.dsq = s.dsq ∧
    (ruleCarriageConnect p s).state.stu = s.stu ∧
    (ruleCarriageConnect p s).state.hpt = s.hpt ∧
    (ruleCarriageConnect p s).state.atc = s.atc ∧
    (ruleCarriageConnect p s).state.pins = s.pins ∧
    (ruleCarriageConnect p s).state.free = s.free ∧
    (ruleCarriageConnect p s).state.pending = s.pending ∧
    (ruleCarriageConnect p s).state.conf = s.conf ∧
    (ruleCarriageConnect p s).state.n = s.n := by
  unfold ruleCarriageConnect onSide
  repeat' first
    | (solve | simp)
    | split

@[simp] theorem ruleCarriageRelease_keeps (p : List Byte) (s : State) :
    (ruleCarriageRelease p s).state.cfg = s.cfg ∧
    (ruleCarriageRelease p s).state.ssc = s.ssc ∧
    (ruleCarriageRelease p s).state.flc = s.flc ∧
    (ruleCarriageRelease p s).state.bcu = s.bcu ∧
    (ruleCarriageRelease p s).state.dsq = s.dsq ∧
    (ruleCarriageRelease p s).state.stu = s.stu ∧
    (ruleCarriageRelease p s).state.hpt = s.hpt ∧
    (ruleCarriageRelease p s).state.pins = s.pins ∧
    (ruleCarriageRelease p s).state.free = s.free ∧
    (ruleCarriageRelease p s).state.pending = s.pending ∧
    (ruleCarriageRelease p s).state.conf = s.conf ∧
    (ruleCarriageRelease p s).state.n = s.n := by
  unfold ruleCarriageRelease onSide
  split
  · dsimp only
    split <;> simp
  · simp

@[simp] theorem ruleCreelDone_keeps (p : List Byte) (s : State) :
    (ruleCreelDone p s).state.cfg = s.cfg ∧
    (ruleCreelDone p s).state.ssc = s.ssc ∧
    (ruleCreelDone p s).state.flc = s.flc ∧
    (ruleCreelDone p s).state.dsq = s.dsq ∧
    (ruleCreelDone p s).state.stu = s.stu ∧
    (ruleCreelDone p s).state.hpt = s.hpt ∧
    (ruleCreelDone p s).state.pins = s.pins ∧
    (ruleCreelDone p s).state.free = s.free ∧
    (ruleCreelDone p s).state.pending = s.pending ∧
    (ruleCreelDone p s).state.conf = s.conf ∧
    (ruleCreelDone p s).state.n = s.n := by
  unfold ruleCreelDone
  dsimp only
  repeat' first
    | (solve | simp)
    | split

@[simp] theorem ruleTenterClear_keeps (p : List Byte) (s : State) :
    (ruleTenterClear p s).state.cfg = s.cfg ∧
    (ruleTenterClear p s).state.ssc = s.ssc ∧
    (ruleTenterClear p s).state.pcn = s.pcn ∧
    (ruleTenterClear p s).state.cmn = s.cmn ∧
    (ruleTenterClear p s).state.flc = s.flc ∧
    (ruleTenterClear p s).state.bcu = s.bcu ∧
    (ruleTenterClear p s).state.dsq = s.dsq ∧
    (ruleTenterClear p s).state.stu = s.stu ∧
    (ruleTenterClear p s).state.hpt = s.hpt ∧
    (ruleTenterClear p s).state.pins = s.pins ∧
    (ruleTenterClear p s).state.free = s.free ∧
    (ruleTenterClear p s).state.pending = s.pending ∧
    (ruleTenterClear p s).state.conf = s.conf ∧
    (ruleTenterClear p s).state.n = s.n := by
  unfold ruleTenterClear
  dsimp only
  repeat' first
    | (solve | simp)
    | split

@[simp] theorem ruleForceDoff_keeps (p : List Byte) (s : State) :
    (ruleForceDoff p s).state.cfg = s.cfg ∧
    (ruleForceDoff p s).state.ssc = s.ssc ∧
    (ruleForceDoff p s).state.spt = s.spt ∧
    (ruleForceDoff p s).state.pcn = s.pcn ∧
    (ruleForceDoff p s).state.bdp = s.bdp ∧
    (ruleForceDoff p s).state.clc = s.clc ∧
    (ruleForceDoff p s).state.cmn = s.cmn ∧
    (ruleForceDoff p s).state.stu = s.stu ∧
    (ruleForceDoff p s).state.hpt = s.hpt ∧
    (ruleForceDoff p s).state.pins = s.pins ∧
    (ruleForceDoff p s).state.pending = s.pending ∧
    (ruleForceDoff p s).state.flc.clock = s.flc.clock ∧
    (ruleForceDoff p s).state.flc.link = s.flc.link ∧
    (ruleForceDoff p s).state.flc.peers = s.flc.peers ∧
    (ruleForceDoff p s).state.conf = s.conf ∧
    (ruleForceDoff p s).state.n = s.n := by
  unfold ruleForceDoff
  repeat' first
    | (solve | simp)
    | split

@[simp] theorem ruleAckAttention_keeps (p : List Byte) (s : State) :
    (ruleAckAttention p s).state.cfg = s.cfg ∧
    (ruleAckAttention p s).state.ssc = s.ssc ∧
    (ruleAckAttention p s).state.spt = s.spt ∧
    (ruleAckAttention p s).state.pcn = s.pcn ∧
    (ruleAckAttention p s).state.bdp = s.bdp ∧
    (ruleAckAttention p s).state.clc = s.clc ∧
    (ruleAckAttention p s).state.cmn = s.cmn ∧
    (ruleAckAttention p s).state.flc = s.flc ∧
    (ruleAckAttention p s).state.bcu = s.bcu ∧
    (ruleAckAttention p s).state.dsq = s.dsq ∧
    (ruleAckAttention p s).state.stu = s.stu ∧
    (ruleAckAttention p s).state.hpt = s.hpt ∧
    (ruleAckAttention p s).state.pins = s.pins ∧
    (ruleAckAttention p s).state.free = s.free ∧
    (ruleAckAttention p s).state.pending = s.pending ∧
    (ruleAckAttention p s).state.conf = s.conf ∧
    (ruleAckAttention p s).state.n = s.n := by
  unfold ruleAckAttention
  dsimp only
  repeat' first
    | (solve | simp)
    | split

@[simp] theorem ruleSetAttentionEnable_keeps (p : List Byte) (s : State) :
    (ruleSetAttentionEnable p s).state.cfg = s.cfg ∧
    (ruleSetAttentionEnable p s).state.ssc = s.ssc ∧
    (ruleSetAttentionEnable p s).state.spt = s.spt ∧
    (ruleSetAttentionEnable p s).state.pcn = s.pcn ∧
    (ruleSetAttentionEnable p s).state.bdp = s.bdp ∧
    (ruleSetAttentionEnable p s).state.clc = s.clc ∧
    (ruleSetAttentionEnable p s).state.cmn = s.cmn ∧
    (ruleSetAttentionEnable p s).state.flc = s.flc ∧
    (ruleSetAttentionEnable p s).state.bcu = s.bcu ∧
    (ruleSetAttentionEnable p s).state.dsq = s.dsq ∧
    (ruleSetAttentionEnable p s).state.stu = s.stu ∧
    (ruleSetAttentionEnable p s).state.hpt = s.hpt ∧
    (ruleSetAttentionEnable p s).state.pins = s.pins ∧
    (ruleSetAttentionEnable p s).state.free = s.free ∧
    (ruleSetAttentionEnable p s).state.pending = s.pending ∧
    (ruleSetAttentionEnable p s).state.conf = s.conf ∧
    (ruleSetAttentionEnable p s).state.n = s.n := by
  unfold ruleSetAttentionEnable
  dsimp only
  repeat' first
    | (solve | simp)
    | split

@[simp] theorem ruleProbeStart_keeps (p : List Byte) (s : State) :
    (ruleProbeStart p s).state.cfg = s.cfg ∧
    (ruleProbeStart p s).state.spt = s.spt ∧
    (ruleProbeStart p s).state.pcn = s.pcn ∧
    (ruleProbeStart p s).state.bdp = s.bdp ∧
    (ruleProbeStart p s).state.clc = s.clc ∧
    (ruleProbeStart p s).state.cmn = s.cmn ∧
    (ruleProbeStart p s).state.flc = s.flc ∧
    (ruleProbeStart p s).state.bcu = s.bcu ∧
    (ruleProbeStart p s).state.dsq = s.dsq ∧
    (ruleProbeStart p s).state.stu = s.stu ∧
    (ruleProbeStart p s).state.hpt = s.hpt ∧
    (ruleProbeStart p s).state.atc = s.atc ∧
    (ruleProbeStart p s).state.pins = s.pins ∧
    (ruleProbeStart p s).state.free = s.free ∧
    (ruleProbeStart p s).state.pending = s.pending ∧
    (ruleProbeStart p s).state.ssc.tier = s.ssc.tier ∧
    (ruleProbeStart p s).state.conf = s.conf ∧
    (ruleProbeStart p s).state.n = s.n := by
  unfold ruleProbeStart
  dsimp only
  repeat' first
    | (solve | simp)
    | split

@[simp] theorem restartRequest_keeps (body : List Byte) (s : State) :
    (restartRequest body s).cfg = s.cfg ∧
    (restartRequest body s).ssc = s.ssc ∧
    (restartRequest body s).spt = s.spt ∧
    (restartRequest body s).pcn = s.pcn ∧
    (restartRequest body s).bdp = s.bdp ∧
    (restartRequest body s).clc = s.clc ∧
    (restartRequest body s).cmn = s.cmn ∧
    (restartRequest body s).flc = s.flc ∧
    (restartRequest body s).bcu = s.bcu ∧
    (restartRequest body s).dsq = s.dsq ∧
    (restartRequest body s).stu = s.stu ∧
    (restartRequest body s).atc = s.atc ∧
    (restartRequest body s).pins = s.pins ∧
    (restartRequest body s).pending = s.pending ∧
    (restartRequest body s).conf = s.conf ∧
    (restartRequest body s).n = s.n := by
  unfold restartRequest
  dsimp only
  repeat' first
    | (solve | simp)
    | split

@[simp] theorem warmRestart_keeps (s : State) :
    (warmRestart s).cfg = s.cfg ∧
    (warmRestart s).pcn = s.pcn ∧
    (warmRestart s).stu = s.stu ∧
    (warmRestart s).hpt = s.hpt ∧
    (warmRestart s).atc = s.atc ∧
    (warmRestart s).pins = s.pins ∧
    (warmRestart s).free = s.free ∧
    (warmRestart s).pending = s.pending ∧
    (warmRestart s).flc.clock = s.flc.clock ∧
    (warmRestart s).conf = s.conf ∧
    (warmRestart s).n = s.n := by
  simp [warmRestart]

@[simp] theorem takeEdge_keeps (s : State) (e : Edge) :
    (takeEdge s e).cfg = s.cfg ∧
    (takeEdge s e).pcn = s.pcn ∧
    (takeEdge s e).cmn = s.cmn ∧
    (takeEdge s e).bcu = s.bcu ∧
    (takeEdge s e).stu = s.stu ∧
    (takeEdge s e).hpt = s.hpt ∧
    (takeEdge s e).atc = s.atc ∧
    (takeEdge s e).pins = s.pins ∧
    (takeEdge s e).pending = s.pending ∧
    (takeEdge s e).flc.clock = s.flc.clock ∧
    (takeEdge s e).flc.link = s.flc.link ∧
    (takeEdge s e).flc.peers = s.flc.peers ∧
    (takeEdge s e).conf = s.conf ∧
    (takeEdge s e).n = s.n := by
  cases e <;> simp [takeEdge]

@[simp] theorem restartComplete_keeps (s : State) :
    (restartComplete s).cfg = s.cfg ∧
    (restartComplete s).pcn = s.pcn ∧
    (restartComplete s).stu = s.stu ∧
    (restartComplete s).atc = s.atc ∧
    (restartComplete s).pins = s.pins ∧
    (restartComplete s).pending = s.pending ∧
    (restartComplete s).flc.clock = s.flc.clock ∧
    (restartComplete s).conf = s.conf ∧
    (restartComplete s).n = s.n := by
  unfold restartComplete
  dsimp only
  repeat' first
    | (solve | simp)
    | split

@[simp] theorem unknownRequest_keeps (bytes : List Byte) (s : State) :
    (unknownRequest bytes s).cfg = s.cfg ∧
    (unknownRequest bytes s).ssc = s.ssc ∧
    (unknownRequest bytes s).spt = s.spt ∧
    (unknownRequest bytes s).pcn = s.pcn ∧
    (unknownRequest bytes s).bdp = s.bdp ∧
    (unknownRequest bytes s).clc = s.clc ∧
    (unknownRequest bytes s).cmn = s.cmn ∧
    (unknownRequest bytes s).flc = s.flc ∧
    (unknownRequest bytes s).bcu = s.bcu ∧
    (unknownRequest bytes s).dsq = s.dsq ∧
    (unknownRequest bytes s).stu = s.stu ∧
    (unknownRequest bytes s).atc = s.atc ∧
    (unknownRequest bytes s).pins = s.pins ∧
    (unknownRequest bytes s).pending = s.pending ∧
    (unknownRequest bytes s).conf = s.conf ∧
    (unknownRequest bytes s).n = s.n := by
  unfold unknownRequest
  repeat' first
    | (solve | simp)
    | split

@[simp] theorem hostRead_keeps (clocked : Nat) (s : State) :
    (hostRead clocked s).cfg = s.cfg ∧
    (hostRead clocked s).ssc = s.ssc ∧
    (hostRead clocked s).spt = s.spt ∧
    (hostRead clocked s).pcn = s.pcn ∧
    (hostRead clocked s).bdp = s.bdp ∧
    (hostRead clocked s).clc = s.clc ∧
    (hostRead clocked s).cmn = s.cmn ∧
    (hostRead clocked s).flc = s.flc ∧
    (hostRead clocked s).bcu = s.bcu ∧
    (hostRead clocked s).dsq = s.dsq ∧
    (hostRead clocked s).stu = s.stu ∧
    (hostRead clocked s).atc = s.atc ∧
    (hostRead clocked s).pins = s.pins ∧
    (hostRead clocked s).free = s.free ∧
    (hostRead clocked s).pending = s.pending ∧
    (hostRead clocked s).conf = s.conf ∧
    (hostRead clocked s).n = s.n := by
  simp [hostRead]

@[simp] theorem badTransaction_keeps (first : Byte) (s : State) :
    (badTransaction first s).cfg = s.cfg ∧
    (badTransaction first s).ssc = s.ssc ∧
    (badTransaction first s).spt = s.spt ∧
    (badTransaction first s).pcn = s.pcn ∧
    (badTransaction first s).bdp = s.bdp ∧
    (badTransaction first s).clc = s.clc ∧
    (badTransaction first s).cmn = s.cmn ∧
    (badTransaction first s).flc = s.flc ∧
    (badTransaction first s).bcu = s.bcu ∧
    (badTransaction first s).dsq = s.dsq ∧
    (badTransaction first s).stu = s.stu ∧
    (badTransaction first s).atc = s.atc ∧
    (badTransaction first s).pins = s.pins ∧
    (badTransaction first s).free = s.free ∧
    (badTransaction first s).pending = s.pending ∧
    (badTransaction first s).conf = s.conf ∧
    (badTransaction first s).n = s.n := by
  unfold badTransaction
  repeat' first
    | (solve | simp)
    | split

@[simp] theorem runTimers_keeps (s : State) :
    (runTimers s).cfg = s.cfg ∧
    (runTimers s).spt = s.spt ∧
    (runTimers s).pcn = s.pcn ∧
    (runTimers s).bdp = s.bdp ∧
    (runTimers s).hpt = s.hpt ∧
    (runTimers s).atc = s.atc ∧
    (runTimers s).pins = s.pins ∧
    (runTimers s).free = s.free ∧
    (runTimers s).pending = s.pending ∧
    (runTimers s).flc.link = s.flc.link ∧
    (runTimers s).ssc.tier = s.ssc.tier ∧
    (runTimers s).dsq.phase = s.dsq.phase ∧
    (runTimers s).conf = s.conf ∧
    (runTimers s).n = s.n := by
  exact ⟨rfl, rfl, rfl, rfl, rfl, rfl, rfl, rfl, rfl, rfl, rfl, rfl, rfl, rfl⟩

@[simp] theorem sideExpiries_keeps (sd : Side) (s : State) :
    (sideExpiries sd s).cfg = s.cfg ∧
    (sideExpiries sd s).stu = s.stu ∧
    (sideExpiries sd s).hpt = s.hpt ∧
    (sideExpiries sd s).pins = s.pins ∧
    (sideExpiries sd s).pending = s.pending ∧
    (sideExpiries sd s).flc.clock = s.flc.clock ∧
    (sideExpiries sd s).flc.link = s.flc.link ∧
    (sideExpiries sd s).flc.peers = s.flc.peers ∧
    (sideExpiries sd s).ssc.tier = s.ssc.tier ∧
    (sideExpiries sd s).conf = s.conf ∧
    (sideExpiries sd s).n = s.n := by
  unfold sideExpiries
  dsimp only
  repeat' first
    | (solve | simp)
    | split

@[simp] theorem groupExpiry_keeps (s : State) (index : Nat) :
    (groupExpiry s index).cfg = s.cfg ∧
    (groupExpiry s index).ssc = s.ssc ∧
    (groupExpiry s index).spt = s.spt ∧
    (groupExpiry s index).pcn = s.pcn ∧
    (groupExpiry s index).bdp = s.bdp ∧
    (groupExpiry s index).clc = s.clc ∧
    (groupExpiry s index).flc = s.flc ∧
    (groupExpiry s index).bcu = s.bcu ∧
    (groupExpiry s index).dsq = s.dsq ∧
    (groupExpiry s index).stu = s.stu ∧
    (groupExpiry s index).hpt = s.hpt ∧
    (groupExpiry s index).pins = s.pins ∧
    (groupExpiry s index).free = s.free ∧
    (groupExpiry s index).pending = s.pending ∧
    (groupExpiry s index).conf = s.conf ∧
    (groupExpiry s index).n = s.n := by
  unfold groupExpiry
  repeat' first
    | (solve | simp)
    | split

@[simp] theorem itemExpiry_keeps (id : Nat) (s : State) (item : StaleItem) :
    (itemExpiry id s item).cfg = s.cfg ∧
    (itemExpiry id s item).ssc = s.ssc ∧
    (itemExpiry id s item).spt = s.spt ∧
    (itemExpiry id s item).pcn = s.pcn ∧
    (itemExpiry id s item).bdp = s.bdp ∧
    (itemExpiry id s item).clc = s.clc ∧
    (itemExpiry id s item).cmn = s.cmn ∧
    (itemExpiry id s item).stu = s.stu ∧
    (itemExpiry id s item).hpt = s.hpt ∧
    (itemExpiry id s item).atc = s.atc ∧
    (itemExpiry id s item).pins = s.pins ∧
    (itemExpiry id s item).pending = s.pending ∧
    (itemExpiry id s item).flc.clock = s.flc.clock ∧
    (itemExpiry id s item).flc.link = s.flc.link ∧
    (itemExpiry id s item).conf = s.conf ∧
    (itemExpiry id s item).n = s.n := by
  unfold itemExpiry
  repeat' first
    | (solve | simp)
    | split

@[simp] theorem peerExpiry_keeps (s : State) (id : Nat) :
    (peerExpiry s id).cfg = s.cfg ∧
    (peerExpiry s id).ssc = s.ssc ∧
    (peerExpiry s id).spt = s.spt ∧
    (peerExpiry s id).pcn = s.pcn ∧
    (peerExpiry s id).bdp = s.bdp ∧
    (peerExpiry s id).clc = s.clc ∧
    (peerExpiry s id).cmn = s.cmn ∧
    (peerExpiry s id).stu = s.stu ∧
    (peerExpiry s id).hpt = s.hpt ∧
    (peerExpiry s id).atc = s.atc ∧
    (peerExpiry s id).pins = s.pins ∧
    (peerExpiry s id).pending = s.pending ∧
    (peerExpiry s id).flc.clock = s.flc.clock ∧
    (peerExpiry s id).flc.link = s.flc.link ∧
    (peerExpiry s id).conf = s.conf ∧
    (peerExpiry s id).n = s.n := by
  unfold peerExpiry
  repeat' first
    | (solve | simp)
    | split

@[simp] theorem reportExpiry_keeps (s : State) (shift : Nat) :
    (reportExpiry s shift).cfg = s.cfg ∧
    (reportExpiry s shift).ssc = s.ssc ∧
    (reportExpiry s shift).spt = s.spt ∧
    (reportExpiry s shift).pcn = s.pcn ∧
    (reportExpiry s shift).bdp = s.bdp ∧
    (reportExpiry s shift).clc = s.clc ∧
    (reportExpiry s shift).cmn = s.cmn ∧
    (reportExpiry s shift).bcu = s.bcu ∧
    (reportExpiry s shift).dsq = s.dsq ∧
    (reportExpiry s shift).hpt = s.hpt ∧
    (reportExpiry s shift).atc = s.atc ∧
    (reportExpiry s shift).pins = s.pins ∧
    (reportExpiry s shift).pending = s.pending ∧
    (reportExpiry s shift).flc.clock = s.flc.clock ∧
    (reportExpiry s shift).flc.link = s.flc.link ∧
    (reportExpiry s shift).flc.peers = s.flc.peers ∧
    (reportExpiry s shift).conf = s.conf ∧
    (reportExpiry s shift).n = s.n := by
  unfold reportExpiry
  repeat' first
    | (solve | simp)
    | split

@[simp] theorem frameExpiries_keeps (s : State) :
    (frameExpiries s).cfg = s.cfg ∧
    (frameExpiries s).hpt = s.hpt ∧
    (frameExpiries s).pins = s.pins ∧
    (frameExpiries s).pending = s.pending ∧
    (frameExpiries s).flc.clock = s.flc.clock ∧
    (frameExpiries s).flc.peers = s.flc.peers ∧
    (frameExpiries s).conf = s.conf ∧
    (frameExpiries s).n = s.n := by
  simp [frameExpiries, apply_ite State.cfg, apply_ite State.hpt, apply_ite State.pins,
    apply_ite State.pending, apply_ite State.flc, apply_ite Flc.clock, apply_ite Flc.peers,
    apply_ite State.conf, apply_ite State.n]

@[simp] theorem expiries_keeps (s : State) :
    (expiries s).cfg = s.cfg ∧
    (expiries s).hpt = s.hpt ∧
    (expiries s).pins = s.pins ∧
    (expiries s).pending = s.pending ∧
    (expiries s).flc.clock = s.flc.clock ∧
    (expiries s).conf = s.conf ∧
    (expiries s).n = s.n := by
  simp [expiries]

@[simp] theorem tick_keeps (s : State) :
    (tick s).cfg = s.cfg ∧
    (tick s).hpt = s.hpt ∧
    (tick s).pins = s.pins ∧
    (tick s).pending = s.pending ∧
    (tick s).conf = s.conf ∧
    (tick s).n = s.n := by
  simp [tick]

end Sys2Proof.Machine
end

