-- ==== Sys2Proof/Laws/PerInstr.lean ====
section
/-! SUPPORT. The families of statements that are made command by command. -/

namespace Sys2Proof.Laws.Wire

open Sys2Proof.Machine

/-- A host request's row has a code of the table of R183, and the write with that code spells it; no
write with a code of the table spells any other row (R178, R183). -/
def Statement (i : Instr) : Prop :=
  match i.requestCode with
  | some k => knownCode k = true ∧ ∃ body, requestOf (BitVec.ofNat 8 k) body = i
  | none => ∀ (code : Byte) (body : List Byte), knownCode code.toNat = true →
      requestOf code body ≠ i

/-- A write with a code of the table spells a row that has a request code. -/
theorem requestOf_code (code : Byte) (body : List Byte) (h : knownCode code.toNat = true) :
    (requestOf code body).requestCode ≠ none := by
  have hlt : 1 ≤ code.toNat ∧ code.toNat ≤ 24 := by simpa [knownCode] using h
  obtain ⟨h1, h2⟩ := hlt
  interval_cases hc : code.toNat <;> simp [requestOf, hc, Instr.requestCode]

/-- A row without a request code is spelled by no write with a code of the table. -/
theorem of_none (i : Instr) (hi : i.requestCode = none) (code : Byte) (body : List Byte)
    (h : knownCode code.toNat = true) : requestOf code body ≠ i := by
  intro e
  exact requestOf_code code body h (e ▸ hi)

theorem coldReset : Statement .coldReset := of_none _ rfl

theorem configure (body : List Byte) : Statement (.configure body) := ⟨rfl, body, rfl⟩

theorem restart (body : List Byte) : Statement (.restart body) := ⟨rfl, body, rfl⟩

theorem restartComplete : Statement .restartComplete := of_none _ rfl

theorem readStatus (body : List Byte) : Statement (.readStatus body) := ⟨rfl, body, rfl⟩

theorem readDelta (body : List Byte) : Statement (.readDelta body) := ⟨rfl, body, rfl⟩

theorem readShift (body : List Byte) : Statement (.readShift body) := ⟨rfl, body, rfl⟩

theorem readTally (body : List Byte) : Statement (.readTally body) := ⟨rfl, body, rfl⟩

theorem copySpindles (body : List Byte) : Statement (.copySpindles body) := ⟨rfl, body, rfl⟩

theorem copyNext (body : List Byte) : Statement (.copyNext body) := ⟨rfl, body, rfl⟩

theorem find (body : List Byte) : Statement (.find body) := ⟨rfl, body, rfl⟩

theorem readBreaks (body : List Byte) : Statement (.readBreaks body) := ⟨rfl, body, rfl⟩

theorem readCarriage (body : List Byte) : Statement (.readCarriage body) := ⟨rfl, body, rfl⟩

theorem clearOutcomes (body : List Byte) : Statement (.clearOutcomes body) := ⟨rfl, body, rfl⟩

theorem carriageConnect (body : List Byte) : Statement (.carriageConnect body) := ⟨rfl, body, rfl⟩

theorem carriageRelease (body : List Byte) : Statement (.carriageRelease body) := ⟨rfl, body, rfl⟩

theorem readCreel (body : List Byte) : Statement (.readCreel body) := ⟨rfl, body, rfl⟩

theorem creelDone (body : List Byte) : Statement (.creelDone body) := ⟨rfl, body, rfl⟩

theorem tenterClear (body : List Byte) : Statement (.tenterClear body) := ⟨rfl, body, rfl⟩

theorem forceDoff (body : List Byte) : Statement (.forceDoff body) := ⟨rfl, body, rfl⟩

theorem readPeers (body : List Byte) : Statement (.readPeers body) := ⟨rfl, body, rfl⟩

theorem readAttention (body : List Byte) : Statement (.readAttention body) := ⟨rfl, body, rfl⟩

theorem ackAttention (body : List Byte) : Statement (.ackAttention body) := ⟨rfl, body, rfl⟩

theorem setAttentionEnable (body : List Byte) : Statement (.setAttentionEnable body) := ⟨rfl, body, rfl⟩

theorem probeStart (body : List Byte) : Statement (.probeStart body) := ⟨rfl, body, rfl⟩

theorem readProbe (body : List Byte) : Statement (.readProbe body) := ⟨rfl, body, rfl⟩

theorem unknownRequest (bytes : List Byte) : Statement (.unknownRequest bytes) := of_none _ rfl

theorem hostReadTransaction (clocked : Nat) : Statement (.hostReadTransaction clocked) := of_none _ rfl

theorem badTransaction (first : Byte) : Statement (.badTransaction first) := of_none _ rfl

theorem ignoredWrite (bytes : List Byte) : Statement (.ignoredWrite bytes) := of_none _ rfl

theorem tinPulseEdge : Statement .tinPulseEdge := of_none _ rfl

theorem frPulseEdge : Statement .frPulseEdge := of_none _ rfl

theorem sectionReadAnswer (side : Side) (bytes : List Byte) : Statement (.sectionReadAnswer side bytes) := of_none _ rfl

theorem readAnswerTimeout (side : Side) : Statement (.readAnswerTimeout side) := of_none _ rfl

theorem passTimerExpiry (side : Side) : Statement (.passTimerExpiry side) := of_none _ rfl

theorem idleTimerExpiry : Statement .idleTimerExpiry := of_none _ rfl

theorem driveRunRise : Statement .driveRunRise := of_none _ rfl

theorem driveRunFall : Statement .driveRunFall := of_none _ rfl

theorem wakeStampReached (side : Side) : Statement (.wakeStampReached side) := of_none _ rfl

theorem exchangeTimerExpiry (side : Side) : Statement (.exchangeTimerExpiry side) := of_none _ rfl

theorem carriageAnswer (side : Side) (bytes : List Byte) : Statement (.carriageAnswer side bytes) := of_none _ rfl

theorem carriageAnswerTimeout (side : Side) : Statement (.carriageAnswerTimeout side) := of_none _ rfl

theorem silenceTimerExpiry (side : Side) : Statement (.silenceTimerExpiry side) := of_none _ rfl

theorem jobTimerExpiry (side : Side) : Statement (.jobTimerExpiry side) := of_none _ rfl

theorem floorFrameReceived (bytes : List Byte) (stopBitsOk : Bool) : Statement (.floorFrameReceived bytes stopBitsOk) := of_none _ rfl

theorem silentTimerExpiry : Statement .silentTimerExpiry := of_none _ rfl

theorem joinTimerExpiry : Statement .joinTimerExpiry := of_none _ rfl

theorem beaconTimerExpiry : Statement .beaconTimerExpiry := of_none _ rfl

theorem transmitAttemptStart : Statement .transmitAttemptStart := of_none _ rfl

theorem collision : Statement .collision := of_none _ rfl

theorem cleanSend : Statement .cleanSend := of_none _ rfl

theorem peerTimerExpiry (peer : Nat) : Statement (.peerTimerExpiry peer) := of_none _ rfl

theorem staleTimerExpiry (peer : Nat) (item : StaleItem) : Statement (.staleTimerExpiry peer item) := of_none _ rfl

theorem doffWindowExpiry : Statement .doffWindowExpiry := of_none _ rfl

theorem trainWindowExpiry : Statement .trainWindowExpiry := of_none _ rfl

theorem holdOffExpiry : Statement .holdOffExpiry := of_none _ rfl

theorem trainWaitExpiry (group : Nat) : Statement (.trainWaitExpiry group) := of_none _ rfl

theorem creelMaxExpiry (group : Nat) : Statement (.creelMaxExpiry group) := of_none _ rfl

theorem doffDoneRise : Statement .doffDoneRise := of_none _ rfl

theorem doffTimerExpiry : Statement .doffTimerExpiry := of_none _ rfl

theorem restartLimitExpiry : Statement .restartLimitExpiry := of_none _ rfl

theorem shiftEndReached : Statement .shiftEndReached := of_none _ rfl

theorem reportTimerExpiry (shift : Nat) : Statement (.reportTimerExpiry shift) := of_none _ rfl

theorem backoffCountdownStopped (counted : Nat) : Statement (.backoffCountdownStopped counted) := of_none _ rfl

end Sys2Proof.Laws.Wire
end

