-- ==== Sys2Proof/Laws/Requests.lean ====
section
/-! SUPPORT. What serving a request, raising an event, offering a message, hearing one and examining a
side can do, each said once. -/

namespace Sys2Proof.Machine

open Sys2Proof.Config

theorem bump_def (n : Nat) : bump n = min (n + 1) max32 := rfl

/-- A request that passes the checks of R178 is served by its own rules on the station with the answer
before it discarded. -/
theorem serve_passed {code : Byte} {early : Bool} {len : Nat → Bool}
    {rule : List Byte → State → Served} {body p : List Byte} {s : State}
    (hr : s.hpt.restarting = false) (hp : payloadOf body = some p) (hl : len p.length = true)
    (hc : s.configured = true ∨ early = true) :
    serve code early len rule body s =
      reply code (rule p (discardCurrent s)).status (rule p (discardCurrent s)).payload
        (rule p (discardCurrent s)).state := by
  have h1 : (discardCurrent s).configured = s.configured := rfl
  rcases hc with hc | hc <;> simp [serve, hr, checked, hp, hl, hc, h1]

/-- An answer with an empty payload, made after the discard, is State.answered. -/
theorem reply_plain (code : Byte) (st : Status) (s : State) :
    reply code st .empty (discardCurrent s) = s.answered code st .empty [] := rfl

/-- An answer without a layout: its bytes are free, at most 4,096 of them. -/
theorem reply_free (code : Byte) (st : Status) (p : Payload) (s t : State) (hn : p.bytes? = none)
    (ht : t.hpt = (discardCurrent s).hpt) :
    ∃ f bytes, bytes.length ≤ 4096 ∧
      reply code st p t =
        ({ t with hpt := s.hpt, free := f } : State).answered code st p bytes := by
  refine ⟨t.free + 1, freeBytes t.free, ?_, ?_⟩
  · simp only [freeBytes, List.length_map, List.length_range]
    omega
  · simp only [reply, hn, setAnswer, modHpt, ht]
    rfl

/-- An event of an enabled class in LEVEL mode is State.noted, urgent or not. -/
theorem raise_plain (c : AttnClass) (u : Bool) (s : State) (h : s.plainAttention c) :
    raise c u s = s.noted c := by
  obtain ⟨hm, he⟩ := h
  have e : s.atc.classes.event c u = s.atc.classes.set c (s.atc.classes.get c).event := by
    simp [Classes.event, he]
  unfold raise Atc.take
  rw [e, if_neg (by simp [hm])]
  rfl

/-- An offered message touches the link and the free-value index only. -/
theorem offer_rest (m : Msg) (s : State) :
    offer m s = { s with flc := (offer m s).flc, free := (offer m s).free } := by
  obtain ⟨h1, h2, h3, h4, h5, h6, h7, h8, h9, h10, h11, h12, h13, h14, _⟩ := offer_keeps m s
  generalize offer m s = t at *
  cases t
  simp_all

/-- An accepted message is counted as a good frame and handed on. -/
theorem floorFrameReceived_heard {s : State} {bytes : List Byte} {f : Frame}
    (h : Heard s bytes f) :
    floorFrameReceived bytes true s =
      acceptMessage f (countFlc (fun c => { c with goodFrames := bump c.goodFrames }) s) := by
  have hg : countGood s = countFlc (fun c => { c with goodFrames := bump c.goodFrames }) s :=
    if_neg h.link.2
  have hb : (inBay s.conf f.sender || f.content.isShift) = true := by simpa using h.bay
  rw [floorFrameReceived, if_neg (by simp [h.link.1, h.free]), if_pos h.good, hg, filterFrame,
    h.form]
  exact (if_neg h.other).trans (if_pos hb)

/-- A level header moves neither the clock nor the shift number. -/
theorem header_level {s : State} {f : Frame} (h : Level s f) :
    headerShift f.shift (adjustClock f.stamp s) = s := by
  rw [adjustClock, if_neg (Nat.not_lt.mpr h.stamp)]
  unfold headerShift
  rcases h.shift with h0 | h0 <;> simp [h0]
  intro h1 h2
  exact absurd h2 h1

/-- A side whose drive is off is not eligible, so its examination changes nothing. -/
theorem examine_drive_off (sd : Side) (s : State) (h : s.pins.driveRun = false) :
    examine sd s = s := by
  unfold examine
  rw [if_neg]
  unfold eligibility
  simp only [h]
  split <;> (try split) <;> simp

end Sys2Proof.Machine
end

