-- ==== Sys2Proof/Tests/Slice0.lean ====
section
/-! SUPPORT. Tests: the checks of well-formedness, the manual's worked cases, one small event of many
commands, and for each statement with hypotheses a station that meets them. -/

namespace Sys2Proof.Tests

open Sys2Proof.Machine Sys2Proof.Config

/-! ### Helpers -/

/-- The station after a command. -/
def after (c : Instr) (s : State) : State :=
  match exec c s with
  | .next t => t
  | _ => s

/-- Station 17 with two sections a side and every other field at its default. -/
def cfg17 : Cfg := { defaults with stationId := 17, sideSpindles := 48 }

/-- A chain of that station with no pass. -/
def chain : Chain :=
  { Chain.cold with
    sections := List.replicate 2 Section.fresh
    passTimer := some 1000 }

/-- A carriage context in READY with its timers running. -/
def readyCar : Carriage :=
  { Carriage.cold with
    state := .ready, exchangeTimer := some 100, silenceTimer := some 1000, lastOrder := 1 }

/-- Station 17, configured and ACTIVE, its carriages READY and its drive off. -/
def station : State :=
  { State.reset with
    cfg := some cfg17
    ssc := { Ssc.cold with chains := ⟨chain, chain⟩, idleTimer := some 30000 }
    spt :=
      { Spt.cold with
        spindles := ⟨List.replicate 48 Spindle.fresh, List.replicate 48 Spindle.fresh⟩ }
    pcn :=
      { Pcn.cold with
        deliveries := ⟨List.replicate 2 ⟨0, 0⟩, List.replicate 2 ⟨0, 0⟩⟩ }
    clc := ⟨readyCar, readyCar⟩
    cmn := { Cmn.cold with groups := List.replicate 4 (Group.fresh cfg17) }
    flc := { Flc.cold with link := .active, clock := 50000, beaconTimer := some 2000 }
    stu := { Stu.cold with number := 7 } }

/-- A node's answer to the READ of section 1. -/
def nodeBytes (status : Byte) (counts : List Nat) (quality : Byte) : List Byte :=
  withCheck ([1, status] ++ (counts.map (beBytes 2)).flatten ++ List.replicate 24 quality)

/-- A carriage's answer: status, taken number, place, and the report's eleven-byte rest. -/
def carBytes (status taken : Byte) (place : Nat) (report : List Byte) : List Byte :=
  withCheck ([status, 0, taken] ++ beBytes 2 place ++ report)

/-- No report. -/
def noReport : List Byte := [0, 0, 0, 0, 0]

/-- A good frame of a sender. -/
def floorBytes (sender kind shift stamp : Nat) (payload : List Byte) : List Byte :=
  let covered := beBytes 1 sender ++ beBytes 1 kind ++ beBytes 1 payload.length ++
    beBytes 4 shift ++ beBytes 6 stamp ++ payload
  0x5A :: covered ++ beBytes 2 (crc16 covered).toNat

/-! ### Well-formed commands: each check refuses an ill-formed one -/

theorem test_wellFormed_refuses_known_code : (Instr.unknownRequest [0x18, 0, 0]).wellFormed = false := by
  decide
theorem test_wellFormed_takes_unknown_code : (Instr.unknownRequest [0x19, 0, 0]).wellFormed = true := by
  decide
theorem test_wellFormed_refuses_write_and_read_bytes :
    (Instr.badTransaction 1).wellFormed = false ∧ (Instr.badTransaction 2).wellFormed = false := by
  decide
theorem test_wellFormed_refuses_short_node_answer :
    (Instr.sectionReadAnswer .L [1, 2]).wellFormed = false := by decide
theorem test_wellFormed_refuses_empty_carriage_answer :
    (Instr.carriageAnswer .R []).wellFormed = false := by decide
theorem test_wellFormed_refuses_peer_out_of_range :
    (Instr.peerTimerExpiry 0).wellFormed = false ∧
    (Instr.peerTimerExpiry 64).wellFormed = false ∧
    (Instr.staleTimerExpiry 64 .trainTake).wellFormed = false := by decide
theorem test_wellFormed_refuses_group_out_of_range :
    (Instr.trainWaitExpiry 0).wellFormed = false ∧
    (Instr.creelMaxExpiry 73).wellFormed = false := by decide
theorem test_wellFormed_refuses_unnumbered_shift :
    (Instr.reportTimerExpiry 0).wellFormed = false := by decide
theorem test_wellFormed_refuses_slots_past_the_widest_draw :
    (Instr.backoffCountdownStopped 256).wellFormed = false := by decide

/-! ### Words: the table gives no bits, so no word spells a command -/

theorem test_no_word_spells_a_command (nbits w : Nat) : decodeTableWord nbits w = none := rfl

theorem test_fetch_word_changes_nothing (s : State) (nbits w : Nat) :
    s.withFetchWord nbits w = s := rfl

/-! ### The manual's worked cases -/

/-- 1.5.1: T 2,560 at the defaults gives 345 passes, and 341, 60 and 12 passes give 988, 173 and 34. -/
theorem test_expected_passes_and_ratios :
    expectedPasses defaults 2560 = 345 ∧ runRatio 341 345 = 988 ∧ runRatio 60 345 = 173 ∧
    runRatio 12 345 = 34 := by decide

/-- 3.2.1: 340 pulses of 785 um on a remainder of 650 um credit 267 mm and leave 550 um. -/
theorem test_credit_of_the_worked_case :
    (Delivery.credit ⟨1402118, 650⟩ 785 340) = ⟨1402385, 550⟩ := by decide

/-- R51: 1,520,000 of 1,658,880 is 916 permille. -/
theorem test_efficiency_of_the_worked_case :
    { Accum.zero with running := 1520000, possible := 1658880 }.efficiency = 916 := by decide

/-- R53: 12,600,000 m at 7.4 tex is 93,240 g. -/
theorem test_mass_of_the_worked_case : massOf 74 12600000 = 93240 := by decide

/-- 6.2.1: three credits of 267 mm draw 60,013 mm down to 60,007, 60,000 and 59,993. -/
theorem test_draw_down_of_the_worked_case :
    let g := { Group.fresh cfg17 with remaining := 60013 }
    let g1 := g.draw cfg17 267
    let g2 := g1.draw cfg17 267
    let g3 := g2.draw cfg17 267
    (g1.remaining, g1.carry) = (60007, 270) ∧ (g2.remaining, g2.carry) = (60000, 140) ∧
    (g3.remaining, g3.carry) = (59993, 10) ∧ g1.meetsLow cfg17 = false ∧
    g2.meetsLow cfg17 = true := by decide

/-- 9.9: the expected due stamp of the worked doff. -/
theorem test_expected_due_of_the_worked_case :
    expectedDue 3600000 10600000 3560320 (10000000, 3400120) = 10748614 := by decide

/-- R114 names the generator x^16 + x^12 + x^5 + 1 from FFFFh, not reflected and not inverted; the check
value of that CRC over "123456789" is 29B1h. -/
theorem test_crc_check_value :
    crc16 [0x31, 0x32, 0x33, 0x34, 0x35, 0x36, 0x37, 0x38, 0x39] = 0x29B1 := by decide +kernel

/-! ### One small event of many commands -/

theorem test_configure_starts_both_passes :
    let t := after (.configure (framed ([1, 0, 17] ++ [3, 0, 48]))) State.reset
    t.configured = true ∧ t.flc.link = .join ∧ t.ssc.chains.r.passes = 1 ∧
      t.clc.l.state = .connecting ∧ t.hpt.ready = true := by decide

/-- The READ of section 1 with its step at 8 goes out as 01h 08h, and that of section 36 with step 15 as
24h 0Fh (R1). -/
theorem test_read_goes_out_as_two_bytes :
    let t := after (.configure (framed ([1, 0, 17] ++ [3, 0, 48]))) State.reset
    t.ssc.chains.l.read.map ReadInFlight.sent = some [1, 8] ∧ readBytes 36 15 = [0x24, 0x0F] := by
  decide

theorem test_configure_without_station_id_is_refused :
    (after (.configure (framed [3, 0, 48])) State.reset).hpt.current.map
      (fun a => (a.status, a.payload)) = some (.range, .refusedFields [1]) := by decide

theorem test_configure_clamps_tin_ppr :
    (after (.configure (framed ([1, 0, 17] ++ [3, 0, 48] ++ [5, 255, 255]))) State.reset).hpt.current.map
      (fun a => (a.status, a.payload)) = some (.clamped, .clampedFields [(5, 1024)]) := by
  decide

theorem test_restart_is_ignored_while_one_is_served :
    (after (.restart (framed [])) (after (.restart (framed [])) station)).hpt.ignored = 1 := by
  decide

theorem test_restart_complete_takes_the_waiting_edge :
    let t := after .restartComplete (after .driveRunRise (after (.restart (framed [])) station))
    t.hpt.restarting = false ∧ t.hpt.waiting = [] ∧ t.pins.driveRun = true ∧
      t.ssc.chains.l.passes = 1 ∧ t.hpt.cause = .warm := by decide

theorem test_unknown_request_before_configure :
    (after (.unknownRequest [0x19, 0, 0]) State.reset).hpt.current.map Answer.status =
      some .unknownRequest := by decide

theorem test_read_shift_without_a_record :
    (after (.readShift (framed [0])) station).hpt.current.map Answer.status = some .state := by
  decide

theorem test_read_creel_past_the_last_group :
    (after (.readCreel (framed [4, 2])) station).hpt.current.map Answer.status = some .range := by
  decide

theorem test_side_byte_two_is_range :
    (after (.readBreaks (framed [2])) station).hpt.current.map Answer.status = some .range := by
  decide

theorem test_copy_runs_to_its_end :
    let t := after (.copyNext (framed [])) (after (.copySpindles (framed [0, 96, 0, 2])) station)
    t.hpt.copy = none ∧ t.hpt.current.map (fun a => a.bytes.length) = some 42 := by decide

theorem test_find_wraps_downward :
    (after (.find (framed [0, 1, 1, 0, 2, 0, 2, 0, 0, 0, 0, 0, 0, 0])) station).hpt.current.map
      Answer.payload =
        some (.find { found := false, spindle := 96, examined := 2 }) := by decide +kernel

theorem test_set_attention_enable_keeps_frame_alert :
    let t := after (.setAttentionEnable (framed [0, 0])) station
    t.atc.classes.frameAlert.enabled = true ∧ t.atc.classes.doff.enabled = false := by
  decide

theorem test_tin_counter_wraps :
    (after .tinPulseEdge { station with ssc := { station.ssc with tin := 4294967295 } }).ssc.tin = 0 := by
  decide

theorem test_answer_outside_a_read_is_discarded :
    after (.sectionReadAnswer .L (nodeBytes 0 (List.replicate 24 5) 40)) station = station := by
  decide

theorem test_adjustment_reaches_the_shift_end :
    let t := after (.floorFrameReceived (floorBytes 5 1 7 28800000 (beBytes 10 0)) true) station
    t.flc.clock = 28800000 ∧ t.stu.number = 8 ∧ t.stu.counts.byTimer = 1 := by decide +kernel

theorem test_heard_number_closes_and_renumbers :
    let t := after (.floorFrameReceived (floorBytes 5 1 9 0 (beBytes 10 0)) true) station
    t.stu.number = 9 ∧ t.stu.records.map ClosedRecord.renumbered = [true] ∧
      t.stu.counts.renumberings = 1 := by decide +kernel

theorem test_frame_without_a_stop_bit_is_bad :
    (after (.floorFrameReceived (floorBytes 5 1 7 0 (beBytes 10 0)) false) station).flc.counts.badFrames =
      1 := by decide +kernel

theorem test_force_doff_claims_in_active :
    let t := after (.forceDoff (framed [])) station
    t.dsq.phase = .claiming ∧ t.bcu.doff = some { urgency := 50000, left := 600 } := by
  decide

theorem test_train_offer_starts_no_claim_without_a_low_group :
    (after (.floorFrameReceived (floorBytes 60 0x41 7 0 [2, 5]) true) station).cmn.counts.offersPassed =
      1 := by decide +kernel

theorem test_creel_done_renews_a_stalled_group :
    let s := station.modGroup 3 fun g => { g with state := .stalled, remaining := 5 }
    let t := after (.creelDone (framed [3])) s
    (t.group? 3).map (fun g => (g.state, g.remaining)) = some (.fed, 1500000) := by decide +kernel

theorem test_self_numbering_counts_an_adoption :
    let t := after .joinTimerExpiry { station with
      flc := { station.flc with link := .join, joinTimer := some 0, beaconTimer := none }
      stu := Stu.cold }
    t.stu.number = 1 ∧ t.stu.counts.adoptions = 1 ∧ t.stu.counts.selfNumberings = 1 := by decide

theorem test_read_shows_the_answer_then_zeros :
    (after (.hostReadTransaction 6) (after (.restart [0]) station)).hpt.shown.map Shown.bytes =
      some [2, 4, 0, 0, 0, 0] := by decide

theorem test_byte_after_the_node_answer_is_discarded :
    after (.sectionReadAnswer .L (nodeBytes 0 (List.replicate 24 345) 40 ++ [9])) station =
      after (.sectionReadAnswer .L (nodeBytes 0 (List.replicate 24 345) 40)) station := by decide

theorem test_wake_stamp_at_the_shift_end_closes_the_shift :
    let s := station.setBreaks .L { Breaks.cold with wake := some 28800000 }
    (after (.wakeStampReached .L) s).stu.number = 8 := by decide

theorem test_idle_tick_moves_the_clock :
    (match step station with
    | .next t => t.flc.clock
    | _ => 0) = 50001 := by decide

/-! ### Stations that meet the hypotheses of the statements

Each theorem is named after its statement. -/

/-- The station with one command waiting. -/
def working : State := { station with pending := [.tinPulseEdge] }

theorem witness_step_answers_next : step working = .next (after .tinPulseEdge station) := rfl

theorem witness_IdleStepIsOneMillisecond : station.pending = [] := rfl

theorem witness_FloorClockNeverGoesBack :
    exec .tinPulseEdge station = .next (after .tinPulseEdge station) ∧
    Instr.tinPulseEdge ≠ .coldReset ∧
    exec .coldReset station = .next (after .coldReset station) := ⟨rfl, by decide, rfl⟩

theorem witness_ColdUntilConfiguredIsKept :
    ColdUntilConfigured { State.reset with pending := [.frPulseEdge] } ∧
    ColdUntilConfigured working := by
  refine ⟨fun _ => rfl, fun h => ?_⟩
  cases h

theorem witness_DoffAgreesIsKept : DoffAgrees working := by
  constructor <;> decide

theorem witness_LinkAgreesIsKept : LinkAgrees working := by
  constructor <;> decide

theorem witness_TransmitSideStaysInRange : QueueInOrder working ∧ SlotInRange working := by
  refine ⟨⟨by decide, by decide, by decide⟩, ⟨by decide, ?_, ?_, ?_, ?_⟩⟩ <;>
    · intro sl h
      cases h

theorem witness_PeersInOrderIsKept : PeersInOrder working := by
  constructor <;> decide

/-- An empty list agrees with a side on which no spindle is listed. -/
theorem listAgrees_of_empty {s : State} {sd : Side} (he : (s.bdp.get sd).entries = [])
    (hl : ∀ r ∈ s.spt.spindles.get sd, r.listed = false) : ListAgrees s sd := by
  have hr : ∀ pos r, s.spindle? sd pos = some r → r.listed = false :=
    fun pos r h => hl r (List.mem_of_getElem? h)
  refine ⟨by simp [he], by simp [he], fun pos => ?_, fun pos r h h1 => ?_⟩
  · constructor
    · rintro ⟨e, h, _⟩
      simp [he] at h
    · intro h
      obtain ⟨r, h1, h2⟩ := Option.map_eq_some_iff.mp h
      simp [hr pos r h1] at h2
  · simp [hr pos r h] at h1

theorem witness_ListAgreesIsKept (sd : Side) : ListAgrees working sd :=
  listAgrees_of_empty (by cases sd <;> rfl) (by cases sd <;> decide)

theorem witness_CarriageAgreesIsKept (sd : Side) : CarriageAgrees working sd := by
  cases sd <;> constructor <;>
    first | decide | (rintro pos (⟨j, h, _⟩ | ⟨r, h, _⟩) <;> cases h)

theorem witness_TablesAndCopsFitIsKept : TablesFit working ∧ CyclesInRange working ∧
    LengthsInRange working ∧ CopsWithinCycles working := by
  refine ⟨⟨fun _ => by decide, ?_, ?_, ?_, by decide⟩, ?_, ?_, ?_⟩
  · intro sd; cases sd <;> decide
  · intro sd; cases sd <;> decide
  · intro sd; cases sd <;> decide
  · intro sd; cases sd <;> decide
  · unfold LengthsInRange Length.inRange; decide
  · intro sd pos r d h _
    have e : r = Spindle.fresh := by
      cases sd <;> exact List.eq_of_mem_replicate (List.mem_of_getElem? h)
    rw [e]
    exact Nat.zero_le _

theorem witness_CreelAndOutCountsAgreeIsKept : CreelAgrees working ∧ OutCountsAgree working := by
  have hg : ∀ i g, working.group? i = some g → g = Group.fresh cfg17 := by
    intro i g h
    unfold State.group? at h
    split at h
    · cases h
    · exact List.eq_of_mem_replicate (List.mem_of_getElem? h)
  refine ⟨⟨by decide, by decide, by decide, ?_, ?_⟩, ?_⟩
  · intro i g h
    rw [hg i g h]
    constructor
    · intro hc; cases hc
    · rintro ⟨r, hr, _⟩; cases hr
  · intro r h; cases h
  · intro sd k g h1 h2 h
    rw [hg _ g h]
    have h3 : k ≤ 2 := h2
    cases sd <;> interval_cases k <;> decide

theorem witness_ShiftsInOrderIsKept : ShiftsInOrder working := by
  constructor <;> first | decide | (intro r h; cases h)

theorem witness_AttentionAndPortAgreeIsKept : AttentionAgrees working ∧ PortAgrees working := by
  refine ⟨⟨by decide, fun c => ?_, fun c => ?_⟩, ⟨by decide, by decide, by decide⟩⟩ <;>
    cases c <;> decide

/-! #### The frame's lines, the scan and the reads -/

/-- A chain of the station in a pass, the READ of section 1 in flight. -/
def reading (s1 : Section) : Chain :=
  { chain with
    sections := [s1, Section.fresh]
    pass := some ⟨1, false, false⟩
    read := some (newRead 1 8)
    readTimer := some 5 }

/-- The station reading section L/1, which has the record s1. -/
def midPass (s1 : Section) : State :=
  { station with ssc := { station.ssc with tin := 2560, fr := 340, chains := ⟨reading s1, chain⟩ } }

/-- A section record with snapshots 0 and a base of zeros. -/
def based : Section :=
  { Section.fresh with snapshots := some (0, 0), base := some (List.replicate 24 0) }

/-- A section record two misses from a fresh one. -/
def missedTwice : Section := { based with miss := 2 }

theorem midPass_holds (s1 : Section) : MidPass (midPass s1) .L 1 s1 ⟨1, false, false⟩ :=
  ⟨rfl, rfl, rfl, (by decide : 1 ≤ 1 ∧ 1 < station.sections)⟩

theorem witness_DriveEdgesMoveTheTier :
    station.serving ∧ station.ssc.tier = .run ∧
    ({ station with ssc := { station.ssc with
        tier := .slow, chains := ⟨reading based, chain⟩ } } : State).serving ∧
    (State.reset.configured = false ∧ State.reset.hpt.restarting = false) ∧
    (after (.restart (framed [])) station).hpt.restarting = true := by
  refine ⟨⟨rfl, rfl⟩, rfl, ⟨rfl, rfl⟩, ⟨rfl, rfl⟩, by decide⟩

theorem witness_ScanTimersExpire :
    (station.ssc.chains.get .L).passTimer = some 1000 ∧ (station.ssc.chains.get .L).pass = none ∧
    ((midPass based).ssc.chains.get .L).passTimer = some 1000 ∧
    ((midPass based).ssc.chains.get .L).pass.isSome = true ∧
    station.ssc.idleTimer = some 30000 ∧ station.pins.driveRun = false ∧
    station.ssc.tier = .run ∧ (station.clc.get .L).doffDemand = false ∧
    (station.clc.get .L).state = .ready := by
  decide

/-- The station reading section L/2, the last, in a pass p, with a pass owed or not. -/
def lastOfPass (p : Pass) (owed : Bool) (phase : Phase) : State :=
  { station with
    ssc := { station.ssc with
      chains := ⟨{ reading based with pass := some p, read := some (newRead 2 8), owed := owed }, chain⟩ }
    dsq := { station.dsq with phase := phase } }

theorem lastOfPass_holds (p : Pass) (owed : Bool) (phase : Phase) :
    LastOfPass (lastOfPass p owed phase) .L 2 Section.fresh p :=
  ⟨rfl, rfl, rfl, (by decide : 1 ≤ 2 ∧ 2 = station.sections)⟩

theorem witness_MissedReadsAreUnobserved_last :
    (∀ owed, LastOfPass (lastOfPass ⟨2, true, false⟩ owed .spinning) .L 2 Section.fresh
      ⟨2, true, false⟩ ∧
      ((lastOfPass ⟨2, true, false⟩ owed .spinning).ssc.chains.get .L).owed = owed) ∧
    (∀ after, LastOfPass (lastOfPass ⟨2, true, after⟩ false .restarting) .L 2 Section.fresh
      ⟨2, true, after⟩) ∧
    (lastOfPass ⟨2, true, true⟩ false .restarting).dsq.phase = .restarting ∧
    (lastOfPass ⟨2, true, true⟩ false .restarting).dsq.passCount.get .R <
      (lastOfPass ⟨2, true, true⟩ false .restarting).conf.verifyPasses :=
  ⟨fun _ => ⟨lastOfPass_holds _ _ _, rfl⟩, fun _ => lastOfPass_holds _ _ _, rfl, by decide⟩

theorem witness_MissedReadsAreUnobserved :
    MidPass (midPass missedTwice) .L 1 missedTwice ⟨1, false, false⟩ ∧
    75 ≤ (beBytes 76 1).length ∧ ((beBytes 76 1).headD 0).toNat ≠ 1 ∧
    missedTwice.lost = false ∧ 2 ≤ missedTwice.miss ∧
    missedTwice.snapshots = some (0, 0) ∧
    (midPass missedTwice).delivery? .L 1 = some ⟨0, 0⟩ :=
  ⟨midPass_holds _, by decide, by decide, rfl, by decide, rfl, rfl⟩

/-- What the node says in nodeBytes 0 with 345 passes each. -/
def answer345 : NodeAnswer :=
  { restarted := false, counts := List.replicate 24 345, qualities := List.replicate 24 40 }

theorem witness_BaseTakingReadTakesTheCounts :
    MidPass (midPass Section.fresh) .L 1 Section.fresh ⟨1, false, false⟩ ∧
    75 ≤ (nodeBytes 0 (List.replicate 24 345) 40 ++ [9]).length ∧
    parseNodeAnswer 1 ((nodeBytes 0 (List.replicate 24 345) 40 ++ [9]).take 75) =
      some answer345 ∧
    Section.fresh.base = none ∧
    parseNodeAnswer 1 ((nodeBytes 1 (List.replicate 24 345) 40).take 75) =
      some { answer345 with restarted := true } :=
  ⟨midPass_holds _, by decide, by decide, rfl, by decide⟩

/-- The station reading section L/1 with a tin delta, and a probe that waits for a spindle. -/
def measuring (tin : W32) (probe : Nat) : State :=
  let s := midPass based
  { s with ssc := { s.ssc with tin := tin, probeIndex := some probe } }

/-- Tin deltas of 0 and of 256,000 pulses: expected passes below REF_MIN and above 32,768. -/
theorem witness_BaseTakingReadTakesTheCounts_unreferenced :
    (∀ tin probe, MidPass (measuring tin probe) .L 1 based ⟨1, false, false⟩ ∧
      (measuring tin probe).delivery? .L 1 = some ⟨0, 0⟩ ∧
      (measuring tin probe).conf = cfg17 ∧ (measuring tin probe).ssc.capture = none ∧
      (measuring tin probe).ssc.probeIndex = some probe) ∧
    answer345.restarted = false ∧ based.base = some (List.replicate 24 0) ∧
    based.snapshots = some (0, 0) ∧
    expectedPasses cfg17 0 < cfg17.refMin ∧ 32768 < expectedPasses cfg17 256000 ∧
    spindlePlace 48 1 = (.L, 0) ∧ spindlePlace 48 24 = (.L, 23) ∧ spindlePlace 48 25 = (.L, 24) ∧
    spindlePlace 48 49 = (.R, 0) :=
  ⟨fun _ _ => ⟨⟨rfl, rfl, rfl, (by decide : 1 ≤ 1 ∧ 1 < station.sections)⟩, rfl, rfl, rfl, rfl⟩, rfl,
    rfl, rfl, by decide, by decide, by decide, by decide, by decide, by decide⟩

/-- The probe takes a measuring read of its section, with the ratio of a referenced read or without, and
moves on (R18, R19). -/
theorem test_probe_takes_the_read :
    let read := fun tin => (after (.sectionReadAnswer .L (nodeBytes 0 (List.replicate 24 341) 40))
      (measuring tin 24)).ssc
    (read 2560).capture = some ⟨24, 341, 40, 2560, some 340, 345, some 988⟩ ∧
    (read 2560).probeIndex = some 25 ∧
    (read 0).capture = some ⟨24, 341, 40, 0, some 340, 0, none⟩ := by decide +kernel

/-- The station reading section L/1 with the doff in a phase at a progress, the link in a state. -/
def nearing (ph : Phase) (progress : Nat) (l : LinkState) : State :=
  let s := midPass based
  { s with
    dsq := { s.dsq with phase := ph, progress := progress, basis := some (40000, 3400000) }
    bcu := { s.bcu with hold := some ⟨40000, none⟩ }
    flc := { s.flc with link := l } }

/-- The levels of 9.1 at the defaults, and a credit of 266 mm that leaves any progress above it. -/
theorem witness_MissedReadsAreUnobserved_credit :
    (∀ ph p l, MidPass (nearing ph p l) .L 1 based ⟨1, false, false⟩ ∧
      (nearing ph p l).dsq.phase = ph ∧ (nearing ph p l).dsq.progress = p ∧
      (nearing ph p l).dsq.overfull = false ∧ (nearing ph p l).flc.link = l ∧
      (nearing ph p l).dsq.basis = some (40000, 3400000) ∧
      (nearing ph p l).bcu.hold = some ⟨40000, none⟩ ∧ (nearing ph p l).dCount 0 = 0 ∧
      (nearing ph p l).plainAttention .doff ∧ (nearing ph p l).plainAttention .creel ∧
      (nearing ph p l).group? 1 = some (Group.fresh cfg17)) ∧
    ((cfg17.doffTargetM - cfg17.doffLeadM) * 1000, cfg17.doffTargetM * 1000,
      (cfg17.doffTargetM + cfg17.doffOverrunM) * 1000) = (3400000, 3600000, 3900000) ∧
    (0 + (340 - 0 : W32).toNat * cfg17.frUm) / 1000 = 266 ∧ max 3399999 266 = 3399999 ∧
    0 < cfg17.doffLimit ∧ LinkState.active.sends = true ∧ LinkState.join.sends = false ∧
    groupIndex 48 .L 1 = 1 ∧ ¬((Group.fresh cfg17).drawn cfg17 266).runsLow cfg17 ∧
    (({ Group.fresh cfg17 with remaining := 60001 } : Group).drawn cfg17 266).runsLow cfg17 := by
  refine ⟨fun ph p l => ⟨⟨rfl, rfl, rfl, (by decide : 1 ≤ 1 ∧ 1 < station.sections)⟩, rfl, rfl, rfl, rfl,
    rfl, rfl, rfl, ⟨rfl, rfl⟩, ⟨rfl, rfl⟩, rfl⟩, by decide, by decide, by decide, by decide, rfl, rfl, rfl,
    ?_, ?_⟩ <;>
    unfold Group.runsLow <;> decide

/-- A credit takes the frame into PREWARN at its level, and past the overfull level it claims with
urgency 0 (R147, R150, R152, R155). -/
theorem test_credit_moves_the_doff :
    let credit := fun p => (after (.readAnswerTimeout .L) (nearing .spinning p .active)).dsq
    ((credit 3399999).phase, (credit 3400000).phase) = (.spinning, .prewarn) ∧
    ((credit 3600000).phase, (credit 3600000).overfull) = (.claiming, false) ∧
    ((after (.readAnswerTimeout .L) (nearing .spinning 3900000 .active)).bcu.doff.map
      DoffRecord.urgency) = some 0 := by decide +kernel

/-- The station reading section L/1, where one spindle has record r. -/
def midPassWith (r : Spindle) : State := (midPass based).modSpindle .L 0 fun _ => r

theorem witness_ReferencedReadFormsTheRatios :
    MidPass (midPass based) .L 1 based ⟨1, false, false⟩ ∧ ListAgrees (midPass based) .L ∧
    75 ≤ (nodeBytes 0 (List.replicate 24 345) 40).length ∧
    parseNodeAnswer 1 ((nodeBytes 0 (List.replicate 24 345) 40).take 75) = some answer345 ∧
    based.lost = false ∧ (midPass based).delivery? .L 1 = some ⟨0, 0⟩ ∧
    based.base = some (List.replicate 24 0) ∧ based.snapshots = some (0, 0) ∧
    345 = ((midPass based).ssc.tin - 0).toNat * (midPass based).conf.spindleRatio *
      (1000 - (midPass based).conf.lag) / ((midPass based).conf.tinPpr * 1000000) ∧
    (midPass based).conf.refMin ≤ 345 ∧ based.step ≤ 15 :=
  ⟨midPass_holds _, listAgrees_of_empty rfl (by decide), by decide, by decide, rfl, rfl, rfl, rfl,
    by decide, by decide, by decide⟩

/-- A spindle one good-quality read short of leaving SENSOR_FAULT, and one a read further back. -/
theorem witness_ReferencedReadFormsTheRatios_left (n : Nat) (h : n = 1 ∨ n = 2) :
    let r := { Spindle.fresh with state := .sensorFault, goodRun := cfg17.qualPasses - n }
    let s := midPassWith r
    MidPass s .L 1 based ⟨1, false, false⟩ ∧ ListAgrees s .L ∧ s.spindle? .L 0 = some r ∧
    s.conf.qualMin ≤ answer345.qualities.getD 0 0 ∧
    (n = 1 → s.conf.qualPasses ≤ r.goodRun + 1) ∧ (n = 2 → r.goodRun + 1 < s.conf.qualPasses) := by
  refine ⟨⟨rfl, rfl, rfl, (midPass_holds based).notLast⟩, listAgrees_of_empty rfl ?_, rfl, ?_⟩
  · intro r hr
    rcases h with rfl | rfl <;> revert r <;> decide
  · rcases h with rfl | rfl <;> decide

/-- The read counts a good read of a spindle that stays in SENSOR_FAULT, and judges afresh one that
leaves it (R15, R16, R28). -/
theorem test_referenced_read_leaves_sensor_fault :
    let read := fun n => (after (.sectionReadAnswer .L (nodeBytes 0 (List.replicate 24 345) 40))
      (midPassWith { Spindle.fresh with
        state := .sensorFault, goodRun := cfg17.qualPasses - n })).spindle? .L 0
    (read 1).map (fun r => (r.state, r.goodRun, r.goodCount)) = some (.unknown, 8, 0) ∧
    (read 2).map (fun r => (r.state, r.goodRun, r.goodCount)) = some (.sensorFault, 7, 1) := by
  decide +kernel

theorem witness_ExpectedPassesAreTheQuotient :
    defaults.spindleRatio ≤ 20000 ∧ 1 ≤ defaults.tinPpr ∧ defaults.tinPpr ≤ 1024 ∧
    ({ defaults with spindleRatio := 20000, tinPpr := 1024, lag := 0 } : Cfg).spindleRatio ≤
      20000 := by decide

theorem witness_EfficiencyIsAShareInPermille :
    Accum.zero.possible = 0 ∧ 0 < ({ Accum.zero with possible := 1 } : Accum).possible ∧
    station.pcn.acc.running ≤ station.pcn.acc.possible := by decide

theorem witness_MassIsOfTheGoodLength :
    (4294967295 : Nat) ≤ 4294967295 ∧ (1000 : Nat) ≤ 1000 ∧
    12600000 * 74 / 10000 ≤ 4294967295 := by decide

theorem witness_DoffStartTakesEveryCop :
    station.pcn.acc.copsDoffed ≤ max32 ∧ station.pcn.acc.shortCops ≤ max32 ∧
    LengthsInRange station := by
  unfold LengthsInRange Length.inRange; decide

/-! #### Dispatch and the carriages -/

theorem witness_WakeStampIsRecomputed :
    let s := station.setBreaks .L { Breaks.cold with
      entries := [⟨3, 0, some 60000⟩, ⟨5, 0, some 50001⟩], wake := some 50001 }
    (s.bdp.get .L).wake = some 50001 ∧ s.pins.driveRun = false ∧
    (s.bdp.get .R).wake = none ∧ s.shiftEnd = some 28800000 ∧
    max s.flc.clock 50001 < 28800000 ∧
    ((station.setBreaks .L { Breaks.cold with wake := some 28800000 }).bdp.get .L).wake =
      some 28800000 ∧ s.stu.number < max32 := by decide

theorem witness_SweepChoosesTheNearestAhead :
    ([⟨3, 0, none⟩] : List BreakEntry) ≠ [] ∧
    [⟨3, 0, none⟩, ⟨8, 0, none⟩].Pairwise (fun a b : BreakEntry => a.position < b.position) ∧
    sweep .up 8 [⟨3, 0, none⟩, ⟨8, 0, none⟩] = some (⟨8, 0, none⟩, false) ∧
    sweep .up 9 [⟨3, 0, none⟩, ⟨8, 0, none⟩] = some (⟨8, 0, none⟩, true) ∧
    sweep .down 3 [⟨3, 0, none⟩, ⟨8, 0, none⟩] = some (⟨3, 0, none⟩, false) ∧
    sweep .down 2 [⟨3, 0, none⟩, ⟨8, 0, none⟩] = some (⟨3, 0, none⟩, true) := by decide

/-- The station at a floor clock of 2,000 s, with a list of side L and its carriage at position 9. -/
def listedAt (es : List BreakEntry) : State :=
  { station.setBreaks .L { Breaks.cold with entries := es } with
    flc := { station.flc with clock := 2000000 }
    clc := ⟨{ readyCar with position := 9 }, readyCar⟩ }

/-- The choice with no candidate, none starved, one starved, and two starved that share the earliest
arrival. -/
theorem witness_SweepChoosesTheNearestAhead_choice :
    let fresh : BreakEntry := ⟨9, 2000000 - cfg17.starveS * 1000 + 1, none⟩
    let old : BreakEntry := ⟨20, 2000000 - cfg17.starveS * 1000, none⟩
    choose (listedAt [⟨3, 0, some 2000001⟩]) .L = none ∧
    (choose (listedAt [⟨3, 0, some 2000001⟩, fresh]) .L).map Choice.entry = some fresh ∧
    (choose (listedAt [fresh]) .L).map Choice.starved = some false ∧
    choose (listedAt [fresh, old]) .L = some ⟨old, false, true⟩ ∧
    choose (listedAt [⟨3, 0, none⟩, ⟨8, 0, some 2000000⟩, fresh, old]) .L =
      some ⟨⟨8, 0, some 2000000⟩, true, true⟩ := by decide

theorem witness_ExchangesSendAndTimeOut :
    let s := station.setCar .R { readyCar with outstanding := some ⟨.goPiece 700 2, 9⟩ }
    (∀ k ∈ [OrderKind.connect, .release, .abandon, .park, .resume],
      ((station.setCar .L { readyCar with outstanding := some ⟨k, 9⟩ }).clc.get .L).outstanding =
        some ⟨k, 9⟩) ∧
    (carBytes 0 1 0 noReport).dropLast.length < 11 ∧
    xorBytes ((beBytes 11 1).take 10) ≠ (beBytes 11 1).getD 10 0 ∧
    4 < ((carBytes 5 1 0 noReport).getD 0 0).toNat ∧
    1 < ((carBytes 0 1 0 [2, 1, 0, 0, 1]).getD 5 0).toNat ∧
    (station.clc.get .L).exchangeTimer = some 100 ∧ (station.clc.get .L).outstanding = none ∧
    (s.clc.get .R).exchangeTimer = some 100 ∧
    (s.clc.get .R).outstanding = some ⟨.goPiece 700 2, 9⟩ ∧
    ((station.setCar .L { readyCar with exchange := some [1, 1, 0] }).clc.get .L).exchange.isSome =
      true := by decide

theorem witness_SilenceMakesSuspectThenLost :
    let s1 := station.setCar .L (readyCar.enterSuspect)
    let s2 := station.setCar .L { readyCar with state := .disconnected }
    (station.clc.get .L).silenceTimer = some 1000 ∧ station.plainAttention .carriage ∧
    (station.clc.get .L).state = .ready ∧
    (s1.clc.get .L).silenceTimer = some 1000 ∧ (s1.clc.get .L).state = .suspect ∧
    (s1.clc.get .L).job = none ∧ (s1.clc.get .L).record = none ∧
    (s2.clc.get .L).silenceTimer = some 1000 ∧ (s2.clc.get .L).state = .disconnected :=
  ⟨rfl, ⟨rfl, rfl⟩, rfl, rfl, rfl, rfl, rfl, rfl, rfl⟩

/-- The station with its left context in a state, an exchange under way. -/
def linked (st : CarState) (f : Carriage → Carriage := id) : State :=
  station.setCar .L (f { readyCar with state := st, exchange := some [1, 1, 0] })

/-- Usable answers without a report: IDLE, PARKED and FAULT 9, taking 7. -/
theorem test_answers_are_read :
    (parseCarAnswer ((carBytes 0 7 5 noReport).take 11) = some ⟨.idle, 7, 5, none⟩ ∧
      parseCarAnswer ((carBytes 3 7 5 noReport).take 11) = some ⟨.parked, 7, 5, none⟩) ∧
    (parseCarAnswer (withCheck ([4, 9, 7, 0, 5] ++ noReport)) = some ⟨.fault 9, 7, 5, none⟩) := by
  decide

/-- A spindle SERVICING at position 0 of side L. -/
def serviced (s : State) : State := s.modSpindle .L 0 fun r => { r with state := .servicing }

/-- A job at position 0 of side L. -/
def job0 : Job := { spindle := 1, position := 0, attempt := 1, stamp := 0, seen := none }

/-- The station with its left carriage DISPATCHED to position 0. -/
def dispatched : State :=
  (station.modSpindle .L 0 fun r => { r with state := .servicing }).setCar .L
    { readyCar with
      state := .dispatched
      job := some job0
      jobTimer := some 1
      exchange := some [4, 1, 0, 0, 1, 4] }

/-- A resume record at position 0 of side L. -/
def record0 : ResumeRecord := { spindle := 1, position := 0, attempt := 1, direction := .down }

theorem witness_SilenceMakesSuspectThenLost_job :
    (∀ st, let s := serviced (linked st fun c => { c with job := some job0, jobTimer := some 5 })
      (s.clc.get .L).state = st ∧ (s.clc.get .L).job = some job0 ∧ (s.clc.get .L).record = none ∧
      (s.clc.get .L).exchange = some [1, 1, 0] ∧ (s.clc.get .L).silenceTimer = some 1000 ∧
      s.spindle? .L 0 = some { Spindle.fresh with state := .servicing } ∧
      s.plainAttention .carriage ∧ s.pins.driveRun = false ∧ s.serving) ∧
    (∀ st, let s := serviced (linked st fun c => { c with record := some record0 })
      (s.clc.get .L).state = st ∧ (s.clc.get .L).job = none ∧
      (s.clc.get .L).record = some record0 ∧ (s.clc.get .L).outstanding = none ∧
      s.spindle? .L 0 = some { Spindle.fresh with state := .servicing }) ∧
    (∀ st h, ((linked st fun c => { c with held := some h }).clc.get .L).held = some h) ∧
    ((linked .connecting fun c => { c with outstanding := some ⟨.connect, 8⟩ }).clc.get
      .L).outstanding = some ⟨.connect, 8⟩ ∧ (8 : Byte) ≠ 7 :=
  ⟨fun _ => ⟨rfl, rfl, rfl, rfl, rfl, rfl, ⟨rfl, rfl⟩, rfl, ⟨rfl, rfl⟩⟩,
    fun _ => ⟨rfl, rfl, rfl, rfl, rfl⟩, fun _ _ => rfl, rfl, by decide⟩

theorem witness_AnswerInReadyMovesThePosition_states :
    (∀ st o, let s := linked st fun c => { c with job := some job0, outstanding := o }
      (s.clc.get .L).state = st ∧ (s.clc.get .L).outstanding = o ∧
      (s.clc.get .L).exchange = some [1, 1, 0] ∧ s.pins.driveRun = false) ∧
    (∀ taken dem, let s := linked .parked fun c =>
        { c with resumeTaken := taken, tierDemand := dem, record := some record0 }
      (s.clc.get .L).resumeTaken = taken ∧ (s.clc.get .L).tierDemand = dem ∧
      (s.clc.get .L).record = some record0) ∧
    (some (⟨.goPiece 0 1, 7⟩ : Order)).filter (fun o => o.number != 7) = none ∧
    (some (⟨.goPiece 0 1, 8⟩ : Order)).filter (fun o => o.number != 7) =
      some ⟨.goPiece 0 1, 8⟩ :=
  ⟨fun _ _ => ⟨rfl, rfl, rfl, rfl⟩, fun _ _ => ⟨rfl, rfl, rfl⟩, by decide, by decide⟩

theorem witness_CarriagesConnectAndRelease_taken (dem : Bool) (k : OrderKind) :
    let s := linked .connecting fun c => { c with tierDemand := dem, outstanding := some ⟨k, 7⟩ }
    (s.clc.get .L).state = .connecting ∧ (s.clc.get .L).outstanding = some ⟨k, 7⟩ ∧
    (s.clc.get .L).tierDemand = dem ∧ (s.clc.get .L).doffDemand = false ∧
    s.pins.driveRun = false := ⟨rfl, rfl, rfl, rfl, rfl⟩

/-- The answer that takes the CONNECT: PARKED without a demand issues RESUME, FAULT counts as IDLE
(R84). -/
theorem test_taken_connect_completes_the_connection :
    let s := linked .connecting fun c => { c with outstanding := some ⟨.connect, 7⟩ }
    let t := (after (.carriageAnswer .L (carBytes 3 7 40 noReport)) s).clc.l
    let u := (after (.carriageAnswer .L (withCheck ([4, 9, 7, 0, 50] ++ noReport))) s).clc.l
    (t.state, t.position, t.outstanding.map Order.kind) = (.parked, 40, some .resume) ∧
    (u.state, u.position, u.lastFault) = (.ready, 47, none) := by decide +kernel

/-- IDLE after a taken RESUME serves the resume record first (R95, R96). -/
theorem test_resume_record_is_served_first :
    let s := serviced (linked .parked fun c =>
      { c with resumeTaken := true, record := some record0 })
    let t := (after (.carriageAnswer .L (carBytes 0 7 0 noReport)) s).clc.l
    (t.state, t.outstanding.map Order.kind, t.direction) =
      (.dispatched, some (.goPiece 0 1), .down) := by decide +kernel

theorem witness_JobTimerAbandonsTheJob :
    (dispatched.clc.get .L).jobTimer = some 1 ∧ (dispatched.clc.get .L).state = .dispatched ∧
    (dispatched.clc.get .L).job = some job0 ∧
    dispatched.spindle? .L job0.position = some { Spindle.fresh with state := .servicing } := by
  decide

/-- A READY context's unreported job (notes/assumptions/29.md) that its report ends ABORTED is relisted
and dispatched anew; the new job keeps the context DISPATCHED (R68, R78, R88). -/
theorem test_stale_report_leaves_the_new_job_dispatched :
    let s : State :=
      { (dispatched.setCar .L { dispatched.clc.get .L with state := .ready }) with
        pins := ⟨true, false⟩ }
    let t := takeReport .L { outcome := .aborted, position := 0, number := 9 } s
    (t.clc.get .L).state = .dispatched ∧
    (t.clc.get .L).job.map Job.stamp = some station.flc.clock := by decide +kernel

theorem witness_AnswerInReadyMovesThePosition :
    let s := station.setCar .L { readyCar with exchange := some [1, 1, 0] }
    (s.clc.get .L).exchange = some [1, 1, 0] ∧
    parseCarAnswer ((carBytes 1 1 65535 noReport ++ [9]).take 11) =
      some { status := .moving, taken := 1, place := 65535, report := none } ∧
    (s.clc.get .L).state = .ready := by decide

theorem witness_PiecedReportVerifiesTheSpindle :
    (dispatched.clc.get .L).exchange = some [4, 1, 0, 0, 1, 4] ∧
    parseCarAnswer ((carBytes 0 1 0 [1, 1, 0, 0, 9]).take 11) =
      some { status := .idle, taken := 1, place := 0
             report := some { outcome := .pieced, position := 0, number := 9 } } ∧
    (dispatched.clc.get .L).lastReport ≠ some 9 ∧
    (dispatched.clc.get .L).state = .dispatched ∧ (dispatched.clc.get .L).job = some job0 ∧
    dispatched.spindle? .L 0 = some { Spindle.fresh with state := .servicing } ∧
    dispatched.pins.driveRun = false := by decide

/-! #### The floor line -/

/-- A peer of the station. -/
def peer5 : Peer where
  id := 5
  role := .frame
  lastHeard := 40000
  lastShift := 7
  phase := .none
  doffClaim := some ⟨1, 9⟩
  trainClaim := some ⟨2, 3, 4, 9⟩
  trainTake := some ⟨2, 3, 9⟩
  left := 20000

/-- The station with that peer. -/
def peered : State := { station with flc := { station.flc with peers := [peer5] } }

/-- Received frames and the messages that they carry. -/
def heardFrames : List (List Byte × Frame) :=
  [(floorBytes 5 1 7 50003 ([0, 3] ++ beBytes 8 0), ⟨5, false, 7, 50003, .status 3⟩),
   (floorBytes 5 2 7 50002 (beBytes 6 9), ⟨5, false, 7, 50002, .doffClaim 9⟩),
   (floorBytes 5 3 6 0 [], ⟨5, false, 6, 0, .doffYield⟩),
   (floorBytes 5 5 9 0 [], ⟨5, false, 9, 0, .doffEnd⟩),
   (floorBytes 5 6 7 0 [2, 6, 4, 0, 0], ⟨5, false, 7, 0, .trainClaim 518 4 0⟩),
   (floorBytes 5 6 7 0 [2, 6, 4, 0, 55], ⟨5, false, 7, 0, .trainClaim 518 4 55⟩),
   (floorBytes 5 8 7 0 [2, 6, 4], ⟨5, false, 7, 0, .trainTake 518 4⟩),
   (floorBytes 5 9 7 0 [0, 0, 0, 6], ⟨5, false, 7, 0, .shiftClose 6⟩),
   (floorBytes 5 10 0 0 (beBytes 4 7 ++ beBytes 4 100 ++ beBytes 4 0 ++ beBytes 4 3 ++ beBytes 10 0),
    ⟨5, false, 0, 0, .shiftReport 7 100 3⟩),
   (floorBytes 60 0x41 0 0 [2, 6], ⟨60, true, 0, 0, .trainOffer 518⟩),
   (floorBytes 60 0x42 0 0 [2, 6], ⟨60, true, 0, 0, .trainWithdrawn 518⟩),
   (floorBytes 60 0x43 0 0 [2, 6, 17, 3], ⟨60, true, 0, 0, .trainDocked 518 17 3⟩),
   (floorBytes 60 0x43 0 0 [2, 6, 18, 3], ⟨60, true, 0, 0, .trainDocked 518 18 3⟩),
   (floorBytes 60 0x44 0 0 [17, 3], ⟨60, true, 0, 0, .creelDone 17 3⟩),
   (floorBytes 60 0x44 0 0 [17, 5], ⟨60, true, 0, 0, .creelDone 17 5⟩)]

theorem test_frames_are_read :
    ∀ p ∈ heardFrames, frameGood p.1 true = true ∧ parseFrame p.1 = some p.2 := by decide +kernel

/-- A station with the link, the configuration and the peers of `peered` hears each of those frames. -/
theorem frames_are_heard (s : State) (hf : s.flc = peered.flc) (hc : s.cfg = peered.cfg) :
    ∀ p ∈ heardFrames, Heard s p.1 p.2 := by
  intro p hp
  have hconf : s.conf = cfg17 := by
    unfold State.conf
    rw [hc]
    rfl
  have h : p.2.sender ≠ 17 ∧ inBay cfg17 p.2.sender = true := by
    revert p
    decide
  refine ⟨?_, ?_, (test_frames_are_read p hp).1, (test_frames_are_read p hp).2, ?_, .inl ?_⟩
  · rw [hf]; decide
  · unfold State.readingBack; rw [hf]; rfl
  · rw [hconf]; exact h.1
  · rw [hconf]; exact h.2

/-- The station with that peer and group 3 in a state, its open train claim if it is CLAIMING. -/
def bidding (st : GroupState) : State :=
  { (peered.modGroup 3 fun g => { g with state := st, train := some 518 }) with
    bcu := { station.bcu with
      train := if st = .claiming then some ⟨518, 3, 54, 9⟩ else none } }

theorem witness_FloorFramesAreFiltered :
    (let s := { station with flc := { station.flc with link := .join } }
     s.flc.link = .join ∧ s.readingBack = false ∧ frameGood [0x5A] true = false) ∧
    (station.flc.link = .active ∧ station.flc.slot = none ∧ station.bcu.doff = none ∧
      station.bcu.train = none ∧ station.plainAttention .link ∧
      frameGood (floorBytes 17 3 7 0 []) true = true ∧
      parseFrame (floorBytes 17 3 7 0 []) = some ⟨17, false, 7, 0, .doffYield⟩ ∧
      17 = station.conf.stationId) := by
  unfold State.plainAttention
  decide +kernel

/-- The station in a link state with a health figure. -/
def ailing (l : LinkState) (h : Nat) : State :=
  { station with flc := { station.flc with link := l, health := h } }

/-- The station in the bay of the ids 16 to 31. -/
def bay16 : State := { station with cfg := some { cfg17 with bayMask := 48 } }

/-- The station with n peers, of ids from 20 up. -/
def crowded (n : Nat) : State :=
  { station with flc := { station.flc with
    peers := (List.range n).map fun i => { peer5 with id := i + 20 } } }

theorem witness_FloorFramesAreFiltered_refused :
    (∀ l h, (ailing l h).flc.link = l ∧ (ailing l h).flc.health = h ∧
      (ailing l h).readingBack = false ∧ (ailing l h).plainAttention .link) ∧
    frameGood [0x5A] true = false ∧ 62 + 1 < 64 ∧ 64 ≤ 63 + 1 ∧ 158 + 1 < 160 ∧ 160 ≤ 159 + 1 ∧
    32 ≤ 31 + 1 ∧
    (bay16.flc.link = .active ∧ bay16.readingBack = false ∧
      frameGood (floorBytes 5 99 7 0 []) true = true ∧ parseFrame (floorBytes 5 99 7 0 []) = none ∧
      5 ≠ bay16.conf.stationId ∧
      5 &&& bay16.conf.bayMask ≠ bay16.conf.stationId &&& bay16.conf.bayMask ∧
      Content.doffYield.isShift = false) ∧
    Heard bay16 (floorBytes 5 9 7 0 [0, 0, 0, 6]) ⟨5, false, 7, 0, .shiftClose 6⟩ :=
  ⟨fun _ _ => ⟨rfl, rfl, rfl, rfl, rfl⟩, by decide, by decide, by decide, by decide, by decide,
    by decide, ⟨rfl, rfl, by decide +kernel, by decide +kernel, by decide, by decide, rfl⟩,
    ⟨⟨by decide, by decide⟩, rfl, by decide +kernel, by decide +kernel, by decide, .inr rfl⟩⟩

theorem witness_FloorFramesAreFiltered_newPeer :
    (∀ n, Heard (crowded n) (floorBytes 5 3 6 0 []) ⟨5, false, 6, 0, .doffYield⟩ ∧
      (crowded n).bcu.doff = none ∧ (crowded n).bcu.hold = none ∧ (crowded n).bcu.train = none ∧
      (∀ p ∈ (crowded n).flc.peers, p.id ≠ 5) ∧ (crowded n).flc.peers.length = n) ∧
    (crowded 0).stu.number = 7 ∧ PeersInOrder (crowded 3) ∧ Content.doffYield.ofPeer = true := by
  refine ⟨fun n => ⟨⟨⟨by simp [crowded, station], by simp [crowded, station]⟩, rfl, ?_, ?_, ?_, .inl ?_⟩,
    rfl, rfl, rfl, ?_, by simp [crowded]⟩, rfl, ?_, rfl⟩
  · decide +kernel
  · decide +kernel
  · show 5 ≠ 17; decide
  · show inBay cfg17 5 = true; decide
  · intro p hp
    obtain ⟨i, _, rfl⟩ := List.mem_map.mp hp
    simp
  · constructor <;> decide

/-- A frame of an unknown sender makes an entry, or finds the table full (R129). -/
theorem test_unknown_sender_makes_an_entry_where_there_is_room :
    let hear := fun n => (after (.floorFrameReceived (floorBytes 5 4 7 0 []) true) (crowded n)).flc
    ((hear 47).peers.length, (hear 47).counts.tableFull) = (48, 0) ∧
    ((hear 47).peers.head?.map fun p => (p.id, p.phase)) = some (5, .doffing) ∧
    ((hear 48).peers.length, (hear 48).counts.tableFull) = (48, 1) := by decide +kernel

theorem witness_FloorFramesAreFiltered_heard :
    (∀ p ∈ heardFrames, Heard peered p.1 p.2) ∧
    (∀ st, ∀ p ∈ heardFrames, Heard (bidding st) p.1 p.2) ∧
    Level peered ⟨5, false, 7, 50002, .doffClaim 9⟩ ∧
    Level (bidding .claiming) ⟨60, true, 0, 0, .trainOffer 518⟩ ∧
    peered.bcu.doff = none ∧ peered.bcu.hold = none ∧ peered.bcu.train = none ∧
    (∃ p ∈ peered.flc.peers, p.id = 5) ∧ (Content.doffClaim 9).ofPeer = true :=
  ⟨frames_are_heard _ rfl rfl, fun _ => frames_are_heard _ rfl rfl, ⟨by decide, by decide⟩,
    ⟨by decide, by decide⟩, rfl, rfl, rfl, ⟨peer5, by decide, rfl⟩, rfl⟩

theorem witness_FloorFramesAreFiltered_groups :
    (bidding .claiming).bcu.train = some ⟨518, 3, 54, 9⟩ ∧
    (bidding .low).bcu.train = none ∧ (bidding .low).flc.link.sends = true ∧
    (∀ h ∈ (bidding .low).cmn.groups, h.state ≠ .claiming ∧ h.state ≠ .awaiting) ∧
    (bidding .low).dsq.phase = .spinning ∧
    ((bidding .low).group? 3).map Group.state = some .low ∧
    (∀ p ∈ (bidding .low).flc.peers, (∀ c, p.trainClaim = some c → c.train ≠ 518) ∧
      ∀ c, p.trainTake = some c → c.train ≠ 518) ∧
    ((bidding .awaiting).group? 3).map (fun g => (g.state, g.train)) =
      some (.awaiting, some 518) ∧
    ((bidding .changing).group? 3).map Group.state = some .changing ∧
    (bidding .changing).group? 5 = none ∧
    (bidding .awaiting).plainAttention .creel := by
  refine ⟨rfl, rfl, rfl, by decide, rfl, by decide, ?_, by decide, by decide, by decide,
    ⟨rfl, rfl⟩⟩
  intro p hp
  have e : (bidding .low).flc.peers = [peer5] := rfl
  rw [e] at hp
  obtain rfl := List.mem_singleton.mp hp
  exact ⟨fun c h => by cases h; decide, fun c h => by cases h; decide⟩

theorem witness_ComposedFramesReadBack :
    (1 ≤ station.conf.stationId ∧ station.conf.stationId ≤ 63) ∧
    frameGood (compose station (.doffClaim 50000)) true = true := by decide +kernel

theorem witness_LinkTimersMoveTheLink :
    (let s := { station with flc := { station.flc with link := .silent, silentTimer := some 0 } }
     s.flc.silentTimer = some 0) ∧
    (let s := { station with flc := { station.flc with link := .join, joinTimer := some 0 } }
     s.flc.joinTimer = some 0 ∧ s.flc.queue = [] ∧ s.flc.slot = none ∧ s.bcu.hold = none ∧
       s.dsq.phase ≠ .due ∧ s.flc.health < 64 ∧ 0 < s.flc.width) ∧
    (station.flc.beaconTimer = some 2000 ∧ station.flc.link = .active ∧
      station.flc.queue = [] ∧ station.flc.slot = none) ∧
    (let s := { station with flc := { station.flc with link := .cautious } }
     s.flc.link = .cautious ∧ s.flc.skip = false ∧
       ({ s.flc with skip := true } : Flc).skip = true) := by decide

/-- The station with a DOFF_YIELD in its slot. -/
def slotted (attempts : Nat) (sending : Option (List Byte)) (queue : List Msg) : State :=
  { station with flc := { station.flc with
    slot := some ⟨.doffYield, attempts, 3, sending⟩, queue := queue } }

theorem witness_AttemptsRunToTheirEnds :
    (slotted 0 none []).flc.slot = some ⟨.doffYield, 0, 3, none⟩ ∧
    (slotted 15 (some [0x5A]) []).flc.slot = some ⟨.doffYield, 15, 3, some [0x5A]⟩ ∧
    (slotted 16 (some [0x5A]) []).flc.slot = some ⟨.doffYield, 16, 3, some [0x5A]⟩ ∧
    (slotted 16 (some [0x5A]) []).flc.link = .active ∧
    (slotted 16 (some [0x5A]) []).flc.health < 56 ∧
    (slotted 16 (some [0x5A]) []).flc.queue = [] ∧
    (slotted 16 (some [0x5A]) [.status]).flc.queue = [.status] ∧
    0 < (slotted 15 (some [0x5A]) []).flc.width := by decide

/-- The station in JOIN with a full queue. -/
def queued (q : List Msg) : State :=
  { station with flc := { station.flc with link := .join, queue := q } }

theorem witness_AttemptsRunToTheirEnds_offers :
    (∀ l : LinkState, ({ station with flc := { station.flc with link := l } } : State).flc.link =
      l) ∧
    (station.flc.link = .active ∧ station.flc.slot = none ∧ station.flc.queue = [] ∧
      0 < station.flc.width) ∧
    ((slotted 0 none [.status]).flc.slot.isSome = true ∧ QueueInOrder (slotted 0 none [.status])) ∧
    (QueueInOrder (queued [.doffYield, .status]) ∧ .status ∈ [Msg.doffYield, .status]) ∧
    (let q := List.replicate 15 Msg.doffYield ++ [.status]
     QueueInOrder (queued q) ∧ q.length = 16 ∧ ∃ x ∈ q, Msg.doffEnd.cls < x.cls) ∧
    (let q := List.replicate 16 Msg.doffYield
     QueueInOrder (queued q) ∧ q.length = 16 ∧ ∀ x ∈ q, x.cls ≤ Msg.status.cls) :=
  ⟨fun _ => rfl, ⟨rfl, rfl, rfl, by decide⟩, ⟨rfl, by decide, by decide, by decide⟩,
    ⟨⟨by decide, by decide, by decide⟩, by decide⟩,
    ⟨⟨by decide, by decide, by decide⟩, rfl, .status, by decide, by decide⟩,
    ⟨⟨by decide, by decide, by decide⟩, rfl, by decide⟩⟩

/-- A full queue gives up its newest message of the highest class, or the message offered (R120). -/
theorem test_full_queue_drops_a_message :
    let full := List.replicate 14 Msg.doffYield ++ [.shiftClose 1, .shiftClose 2]
    let t := offer .doffEnd (queued full)
    t.flc.queue = List.replicate 14 Msg.doffYield ++ [.doffEnd, .shiftClose 1] ∧
    t.flc.counts.queueDrops = 1 ∧
    (offer .status (queued full)).flc.queue = full := by decide

theorem witness_PeerEntriesExpire :
    peered.bcu.doff = none ∧ peered.bcu.hold = none ∧
    (∃ p ∈ peered.flc.peers, p.id = 5 ∧ p.doffClaim.isSome = true ∧
      p.trainClaim.isSome = true ∧ p.trainTake.isSome = true) := by decide

/-! #### Claims, the doff, the creel and the shift -/

/-- The station with an open doff claim and n peers in DOFFING. -/
def claiming (n : Nat) : State :=
  { station with
    flc := { station.flc with
      peers := (List.range n).map fun i => { peer5 with id := i + 1, phase := .doffing } }
    bcu := { station.bcu with doff := some ⟨40000, 0⟩ }
    dsq := { station.dsq with phase := .claiming, due := some 40000 } }

theorem witness_WonWindowStartsTheDoff :
    (claiming 1).bcu.doff = some ⟨40000, 0⟩ ∧
    (claiming 1).dCount 40000 < (claiming 1).conf.doffLimit ∧
    (claiming 1).plainAttention .doff ∧ ((claiming 1).clc.get .L).tierDemand = false :=
  ⟨rfl, by decide, ⟨rfl, rfl⟩, rfl⟩

/-- The station with a hold record and n peers in DOFFING. -/
def holding (n : Nat) : State :=
  { claiming n with
    bcu := { station.bcu with hold := some ⟨40000, some 0⟩ }
    dsq := { station.dsq with phase := .holding, due := some 40000 } }

theorem witness_HeldClaimsWaitAndReclaim :
    ((claiming 2).bcu.doff = some ⟨40000, 0⟩ ∧
      (claiming 2).conf.doffLimit ≤ (claiming 2).dCount 40000 ∧
      (claiming 2).dsq.overfull = false) ∧
    ((holding 2).bcu.hold = some ⟨40000, some 0⟩ ∧
      (holding 2).conf.doffLimit ≤ (holding 2).dCount 40000) ∧
    ((holding 1).bcu.hold = some ⟨40000, some 0⟩ ∧ (holding 1).flc.link.sends = true ∧
      (holding 1).dCount 40000 < (holding 1).conf.doffLimit ∧
      (holding 1).dsq.overfull = false ∧ (holding 1).dsq.due = some 40000) := by
  decide

theorem witness_DoffEndsAndRestarts :
    (let s := { station with dsq := { station.dsq with phase := .doffing, doffTimer := some 0 } }
     s.serving ∧ s.dsq.phase = .doffing ∧ s.dsq.doffTimer = some 0 ∧ s.plainAttention .doff) ∧
    (station.serving ∧ station.dsq.phase ≠ .doffing) ∧
    (let s := { station with dsq := { station.dsq with
        phase := .restarting, limitTimer := some 0 } }
     s.dsq.limitTimer = some 0 ∧ s.dsq.phase = .restarting ∧ s.pins.driveRun = false) := by
  unfold State.serving State.plainAttention
  decide

/-- The station at the last read of the pass after a doff that completes the counts of both sides, with
three DOFF_WAIT spindles on side L: one without a ratio, one with a good read, one with none. -/
def judgedLast : State :=
  let s := lastOfPass ⟨2, true, true⟩ false .restarting
  let waits : Spindle := { Spindle.fresh with state := .doffWait }
  ({ s with dsq := { s.dsq with
      passCount := ⟨s.conf.verifyPasses - 1, s.conf.verifyPasses⟩, limitTimer := some 9 } }
    |>.modSpindle .L 0 fun _ => waits)
    |>.modSpindle .L 1 (fun _ => { waits with ratio := some 980, goodCount := 1 })
    |>.modSpindle .L 2 (fun _ => { waits with ratio := some 20 })

theorem witness_DoffEndsAndRestarts_complete :
    LastOfPass judgedLast .L 2 Section.fresh ⟨2, true, true⟩ ∧ TablesFit judgedLast ∧
    judgedLast.dsq.phase = .restarting ∧
    (∀ other, other ≠ .L →
      judgedLast.conf.verifyPasses ≤ judgedLast.dsq.passCount.get other) ∧
    judgedLast.conf.verifyPasses ≤ judgedLast.dsq.passCount.get .L + 1 ∧
    judgedLast.pins.driveRun = false := by
  refine ⟨⟨rfl, rfl, rfl, by decide⟩, ⟨fun _ => by decide, ?_, ?_, ?_, by decide⟩, rfl, ?_, by decide,
    rfl⟩ <;> intro sd <;> cases sd <;> decide

/-- The read that completes both counts ends the restart evaluation COMPLETE (R38, R159, R160). -/
theorem test_last_referenced_pass_judges_the_restart :
    let t := after (.readAnswerTimeout .L) judgedLast
    (List.range 3).map (fun i => (t.spindle? .L i).map Spindle.state) =
      [some .unknown, some .running, some .broken] ∧
    (t.pcn.acc.restartEndDowns, t.pcn.acc.breaks) = (1, 0) ∧ t.dsq.phase = .spinning := by
  decide +kernel

theorem witness_TrainAndCreelTimersMoveTheGroup :
    (let s := { station with bcu := { station.bcu with train := some ⟨518, 3, 54, 0⟩ } }
     s.bcu.train = some ⟨518, 3, 54, 0⟩ ∧ s.group? 3 = some (Group.fresh cfg17)) ∧
    (let g := { Group.fresh cfg17 with state := .awaiting, train := some 518, timer := some 0 }
     let s := station.modGroup 4 fun _ => g
     s.group? 4 = some g ∧ s.plainAttention .creel) ∧
    (let g := { Group.fresh cfg17 with state := .changing, train := some 518, timer := some 0 }
     let s := station.modGroup 1 fun _ => g
     s.group? 1 = some g ∧ s.plainAttention .creel) := by
  unfold State.plainAttention
  decide

/-- The station with one closed-shift record. -/
def closedOnce : State := after .shiftEndReached station

theorem witness_ShiftEndClosesTheShift :
    1 ≤ station.stu.number ∧ station.stu.number < 4294967295 ∧ station.plainAttention .shift ∧
    max station.flc.clock (station.pcn.acc.shiftStart + station.conf.shiftMin * 60000) =
      28800000 ∧
    (∀ sd, (station.bdp.get sd).wake = none) ∧
    ((station.setBreaks .R { Breaks.cold with wake := some 60000 }).bdp.get .R).wake =
      some 60000 ∧
    (∃ r, closedOnce.record? 7 = some r ∧ r.reportTimer.isSome = true) := by
  refine ⟨by decide, by decide, ⟨rfl, rfl⟩, by decide, fun sd => by cases sd <;> rfl, rfl,
    (closedOnce.record? 7).get (by decide), ?_, ?_⟩
  · exact (Option.some_get _).symm
  · decide

/-! #### The host port -/

theorem witness_RequestsAreChecked :
    station.hpt.restarting = false ∧ payloadOf [0] = none ∧ payloadOf [0, 0] = some [] ∧
    (24 : Nat) < (0x19 : Byte).toNat ∧
    requestLength (0x05 : Byte).toNat 0 = false ∧ requestLength (0x18 : Byte).toNat 0 = true ∧
    State.reset.configured = false ∧ State.reset.hpt.restarting = false ∧
    station.configured = true ∧
    ({ station with hpt := { station.hpt with restarting := true } } : State).hpt.restarting =
      true := by decide

theorem witness_RefusedRequestsChangeNothing :
    exec (requestOf 5 [0, 0]) station = .next (after (requestOf 5 [0, 0]) station) ∧
    (after (requestOf 5 [0, 0]) station).hpt.current =
      some { code := 5, status := .range, payload := .empty, bytes := [] } :=
  ⟨rfl, by decide⟩

theorem witness_AcceptedFieldsAreInRange :
    fieldRange 38 = some ⟨1000, 10000⟩ ∧ refusedCodes [1, 0, 17, 3, 0, 48] = [] ∧
    (acceptedCfg (fieldList [1, 0, 17, 3, 0, 48])).stationId = 17 ∧
    (1, 17) ∈ fieldList [1, 0, 17, 3, 0, 48] := by decide

theorem witness_ConfigureStartsTheStation :
    State.reset.configured = false ∧ State.reset.hpt.restarting = false ∧
    payloadOf (framed [3, 0, 48]) = some [3, 0, 48] ∧ refusedCodes [3, 0, 48] ≠ [] ∧
    payloadOf (framed [1, 0, 17, 3, 0, 48]) = some [1, 0, 17, 3, 0, 48] ∧
    refusedCodes [1, 0, 17, 3, 0, 48] = [] ∧
    clampedList (fieldList [1, 0, 17, 3, 0, 48]) = [] ∧
    refusedCodes [1, 0, 17, 3, 0, 48, 5, 255, 255] = [] ∧
    cfgField (givenCfg (fieldList [1, 0, 17, 3, 0, 48, 5, 255, 255])) 5 ≠
      cfgField (acceptedCfg (fieldList [1, 0, 17, 3, 0, 48, 5, 255, 255])) 5 ∧
    ColdUntilConfigured State.reset := by
  refine ⟨rfl, rfl, by decide, by decide, by decide, by decide,
    by decide, by decide, by decide, fun _ => rfl⟩

theorem witness_RestartKeepsTheCounts :
    station.serving ∧ payloadOf [0, 0] = some [] ∧
    (after (.restart [0, 0]) station).hpt.restarting = true ∧
    (after (.restart [0, 0]) station).hpt.waiting = [] ∧
    (after (.restart [0, 0]) station).group? 4 = some (Group.fresh cfg17) := by
  refine ⟨⟨rfl, rfl⟩, by decide, by decide, by decide, by decide⟩

/-- A warm restart settles a claiming group and restarts a changing group's timer (R112). -/
theorem test_restart_goes_on_by_the_group_states :
    let s := (station.modGroup 1 fun g => { g with state := .claiming, train := some 2 }).modGroup 2
      fun g => { g with state := .changing, timer := some 7 }
    let t := after .restartComplete (after (.restart (framed [])) s)
    (t.group? 1).map (fun g => (g.state, g.train)) = some (.fed, none) ∧
    (t.group? 2).map (fun g => (g.state, g.timer)) =
      some (.changing, some (cfg17.creelMaxS * 1000)) := by decide +kernel

theorem witness_ReadsChangeNothingElse :
    State.reset.hpt.restarting = false ∧ station.hpt.restarting = false ∧
    station.configured = true ∧ 4 + 1 ≤ 2 * station.sections + 1 ∧
    closedOnce.stu.records[0]?.isSome = true ∧ closedOnce.hpt.restarting = false := by
  decide

/-- A level of DOFF_DONE that READ_STATUS has seen low stays low (R149, R162). -/
theorem test_doff_done_seen_low_stays_low (s : State) (h : s.pins.doffDone = false) :
    s.lookAtDoffDone.pins = s.pins := by
  simp [h]

theorem witness_ReadsThatClear :
    station.serving ∧ 1 ≤ 96 ∧ 96 ≤ 2 * station.n := ⟨⟨rfl, rfl⟩, by decide, by decide⟩

theorem witness_FindStopsAtTheFirstMatch :
    station.serving ∧ (beBytes 2 96 ++ [0] ++ beBytes 2 96 ++ beBytes 9 (2 ^ 56)).length = 14 ∧
    parseFind station.n (beBytes 2 96 ++ [0] ++ beBytes 2 96 ++ beBytes 9 (2 ^ 56)) =
      some ⟨96, .up, 96, 1, .none⟩ := by
  refine ⟨⟨rfl, rfl⟩, by decide, by decide⟩

theorem witness_CopiesRunInChunks :
    station.serving ∧ 96 ≤ 2 * station.n ∧ 2 * station.n < 65536 ∧ station.hpt.copy = none ∧
    (let s := { station with hpt := { station.hpt with copy := some ⟨96, 33⟩ } }
     s.serving ∧ s.hpt.copy = some ⟨96, 33⟩ ∧ min 32 33 = 32) ∧
    station.record 96 = some Spindle.fresh := by
  refine ⟨⟨rfl, rfl⟩, by decide, by decide, rfl, ⟨⟨rfl, rfl⟩, rfl, rfl⟩, by decide⟩

theorem witness_CarriagesConnectAndRelease :
    station.serving ∧ (station.clc.get .L).state = .ready ∧ (station.clc.get .L).job = none ∧
    (station.clc.get .L).record = none ∧ fitted station.conf .L = true ∧
    ((station.setCar .L Carriage.cold).clc.get .L).state = .disconnected ∧
    ((station.setCar .L { readyCar with state := .lost }).clc.get .L).state = .lost ∧
    fitted { station.conf with carriages := 2 } .L = false := by
  refine ⟨⟨rfl, rfl⟩, rfl, rfl, rfl, by decide, rfl, rfl, by decide⟩

theorem witness_CreelDoneRenewsTheGroup :
    working.serving ∧ 1 ≤ (4 : Byte).toNat ∧ (4 : Byte).toNat ≤ 2 * working.sections ∧
    working.group? (4 : Byte).toNat = some (Group.fresh cfg17) ∧
    ListAgrees working (groupPlace working.n (4 : Byte).toNat).1 :=
  ⟨⟨rfl, rfl⟩, by decide, by decide, by decide, witness_ListAgreesIsKept _⟩

/-- The station with a BLOCKED spindle at position 47 of side R and its drive on. -/
def blockedR : State :=
  { station.modSpindle .R 47 fun r => { r with state := .blocked } with
    pins := ⟨true, false⟩ }

theorem witness_TenterClearListsTheSpindle :
    blockedR.serving ∧ 47 < blockedR.n ∧ 2 * blockedR.n < 65536 ∧
    blockedR.spindle? .R 47 = some { Spindle.fresh with state := .blocked } ∧
    blockedR.spindle? .R 46 = some Spindle.fresh ∧ (blockedR.bdp.get .R).entries = [] ∧
    eligibility blockedR .R = .eligible ∧ heldByCreel blockedR .R 47 = false ∧
    blockedR.unlisted .R = 0 ∧ 1 ≤ blockedR.conf.starveS ∧
    ({ blockedR with pins := ⟨false, false⟩ } : State).pins.driveRun = false := by
  refine ⟨⟨rfl, rfl⟩, by decide, by decide, ?_⟩
  decide

/-- The station with one spindle of side L changed, its drive off or on. -/
def judged (r : Spindle) (drive : Bool := false) : State :=
  { station.modSpindle .L 0 fun _ => r with pins := ⟨drive, false⟩ }

theorem witness_JudgementFollowsTheEvidence :
    (∀ r drive, (judged r drive).spindle? .L 0 = some r ∧ (judged r drive).conf = cfg17 ∧
      (judged r drive).pins.driveRun = drive) ∧
    ({ Spindle.fresh with state := .running, breakCount := 2 } : Spindle).lowRun <
      cfg17.qualPasses ∧
    cfg17.breakConfirm ≤ 2 ∧ 1 < cfg17.breakConfirm ∧ cfg17.slackConfirm ≤ 4 ∧
    3 < cfg17.slackConfirm ∧ cfg17.restorePasses ≤ 2 ∧ 1 + 1 < cfg17.verifyPasses ∧
    cfg17.verifyPasses ≤ 2 + 1 ∧ 0 + 1 < cfg17.pieceTries ∧ cfg17.pieceTries ≤ 2 + 1 :=
  ⟨fun _ _ => ⟨rfl, rfl, rfl⟩, by decide, by decide, by decide, by decide, by decide, by decide, by decide,
    by decide, by decide, by decide⟩

/-- The station with a BROKEN spindle listed at position 0 of side L. -/
def listedZero (r : Spindle) : State :=
  (judged { r with state := .broken, listed := true }).setBreaks .L
    { Breaks.cold with entries := [⟨0, 0, none⟩] }

theorem listedZero_agrees (r : Spindle) :
    ListAgrees (listedZero r) .L ∧ (listedZero r).unlisted .L = 0 ∧
    (listedZero r).pins.driveRun = false := by
  have h : ∀ pos q, (listedZero r).spindle? .L (pos + 1) = some q → q = Spindle.fresh := by
    intro pos q hq
    have e : (listedZero r).spindle? .L (pos + 1) =
      (List.replicate 47 Spindle.fresh)[pos]? := rfl
    exact List.eq_of_mem_replicate (List.mem_of_getElem? (e ▸ hq))
  refine ⟨⟨Nat.one_le_two_pow (n := 6), List.pairwise_singleton _ _, fun pos => ?_, fun pos q hq hl => ?_⟩, ?_, rfl⟩
  · cases pos with
    | zero => exact ⟨fun _ => rfl, fun _ => ⟨⟨0, 0, none⟩, List.mem_singleton.mpr rfl, rfl⟩⟩
    | succ pos =>
      constructor
      · rintro ⟨e, he, hp⟩
        obtain rfl := List.mem_singleton.mp he
        cases hp
      · intro hp
        obtain ⟨q, hq, hl⟩ := Option.map_eq_some_iff.mp hp
        rw [h pos q hq] at hl
        cases hl
  · cases pos with
    | zero => cases hq; rfl
    | succ pos =>
      rw [h pos q hq] at hl
      cases hl
  · rfl

theorem witness_JudgementFollowsTheEvidence_more :
    (∀ r, (listedZero r).spindle? .L 0 = some { r with state := .broken, listed := true } ∧
      ListAgrees (listedZero r) .L ∧ (listedZero r).unlisted .L = 0) ∧
    (judged { Spindle.fresh with lowRun := cfg17.qualPasses }).plainAttention .sensor ∧
    (dispatched.clc.get .L).eff = .dispatched ∧ (dispatched.clc.get .L).job = some job0 ∧
    dispatched.spindle? .L 0 = some { Spindle.fresh with state := .servicing } ∧
    cfg17.qualPasses - 1 < cfg17.qualPasses ∧
    groupIndex station.n .L (sectionOf 0) = 1 ∧ station.group? 1 = some (Group.fresh cfg17) := by
  refine ⟨fun r => ⟨rfl, (listedZero_agrees r).1, (listedZero_agrees r).2.1⟩, ⟨rfl, rfl⟩, rfl, rfl, rfl,
    by decide, by decide, by decide⟩

/-- A low-quality run takes the job of a SERVICING spindle and the out count of a ROVING_OUT one (R27,
R92, R102). -/
theorem test_sensor_fault_takes_the_job_and_the_out_count :
    let low := { Spindle.fresh with lowRun := cfg17.qualPasses }
    let t := judgeSpindle .L (dispatched.modSpindle .L 0 fun _ =>
      { low with state := .servicing }) 0
    let u := judgeSpindle .L ((judged { low with state := .rovingOut }).modGroup 1 fun g =>
      { g with out := 3 }) 0
    (t.clc.l.job, t.clc.l.outstanding.map Order.kind) = (none, some .abandon) ∧
    ((u.spindle? .L 0).map Spindle.state, (u.group? 1).map Group.out) =
      (some .sensorFault, some 2) := by decide +kernel

/-- A declared break waits in the list with the drive off, and is dispatched at once with it on
(R29, R30, R61, R68). -/
theorem test_declared_break_with_the_drive_off_and_on :
    let r := { Spindle.fresh with state := .running, breakCount := cfg17.breakConfirm }
    ((judgeSpindle .L (judged r) 0).spindle? .L 0).map Spindle.state = some .broken ∧
    ((judgeSpindle .L (judged r true) 0).spindle? .L 0).map Spindle.state = some .servicing := by
  decide +kernel

theorem witness_ForceDoffMakesTheDoffDue :
    station.serving ∧ station.dsq.phase = .spinning ∧ station.plainAttention .doff ∧
    station.dsq.overfull = false ∧ (claiming 1).serving ∧
    (claiming 1).dsq.phase ≠ .spinning ∧ (claiming 1).dsq.phase ≠ .prewarn :=
  ⟨⟨rfl, rfl⟩, rfl, ⟨rfl, rfl⟩, rfl, ⟨rfl, rfl⟩, by decide, by decide⟩

theorem witness_AttentionIsAcknowledgedAndEnabled :
    station.serving ∧ (511 : Nat) < 512 ∧
    (let s := { station with atc := { station.atc with
        mode := .pulse
        classes := { station.atc.classes with doff := ⟨true, 1, false⟩ } } }
     s.serving ∧ s.atc.mode = .pulse ∧ (s.atc.classes.get .doff).pending = true ∧
       (s.atc.classes.get .doff).enabled = false) :=
  ⟨⟨rfl, rfl⟩, by decide, ⟨rfl, rfl⟩, rfl, rfl, rfl⟩

theorem witness_TransactionsOnThePort :
    let a : Answer := { code := 7, status := .ok, payload := .empty, bytes := [] }
    let s := { station with hpt := { station.hpt with current := some a, ready := true } }
    s.hpt.current = some a ∧ 3 < 4 + a.bytes.length ∧ 4 + a.bytes.length ≤ 4 ∧
    station.hpt.current = none ∧
    (3 : Byte) ≠ 1 ∧ (3 : Byte) ≠ 2 ∧ station.hpt.restarting = false := by decide

end Sys2Proof.Tests
end

section
/-! Proofs about the run ratio's expected count (R12). -/

namespace Sys2Proof.Proofs

open Sys2Proof.Machine Sys2Proof.Config

/-- The numerator of R12's quotient, which the manual forms first and in full. -/
def expectedNumerator (c : Cfg) (t : Nat) : Nat := t * c.spindleRatio * (1000 - c.lag)

theorem expectedPasses_eq_div (c : Cfg) (t : Nat) :
    expectedPasses c t = expectedNumerator c t / (c.tinPpr * 1000000) := rfl

@[simp] theorem expectedNumerator_zero (c : Cfg) : expectedNumerator c 0 = 0 := by
  simp [expectedNumerator]

@[simp] theorem expectedPasses_zero (c : Cfg) : expectedPasses c 0 = 0 := by
  simp [expectedPasses_eq_div]

/-- No upper limit on LAG is needed: it only lowers the factor `1000 - c.lag`. -/
theorem expectedNumerator_lt {c : Cfg} {t : Nat} (hratio : c.spindleRatio ≤ 20000)
    (ht : t ≤ 4294967295) : expectedNumerator c t < 2 ^ 32 * 20000 * 1000 :=
  calc expectedNumerator c t
      ≤ 4294967295 * 20000 * 1000 :=
        Nat.mul_le_mul (Nat.mul_le_mul ht hratio) (Nat.sub_le 1000 c.lag)
    _ < 2 ^ 32 * 20000 * 1000 := by decide

theorem expectedPasses_mul_le (c : Cfg) (t : Nat) :
    expectedPasses c t * (c.tinPpr * 1000000) ≤ expectedNumerator c t :=
  Nat.div_mul_le_self _ _

theorem expectedNumerator_lt_succ_mul {c : Cfg} (t : Nat) (hppr : 1 ≤ c.tinPpr) :
    expectedNumerator c t < (expectedPasses c t + 1) * (c.tinPpr * 1000000) := by
  have hden : 0 < c.tinPpr * 1000000 := by omega
  exact (Nat.div_lt_iff_lt_mul hden).mp (Nat.lt_succ_self _)

/-- Settles O24: the two bounds of the floor, then the widths of the numerator and the denominator. -/
theorem expectedPassesAreTheQuotient : Obligations.ExpectedPassesAreTheQuotient := by
  intro c t hratio hppr hpprMax ht
  have hnum := expectedNumerator_lt hratio ht
  have hwidth : 2 ^ 32 * 20000 * 1000 < 2 ^ 63 := by decide
  have hden : c.tinPpr * 1000000 ≤ 1024 * 1000000 := Nat.mul_le_mul_right _ hpprMax
  exact ⟨expectedPasses_mul_le c t, expectedNumerator_lt_succ_mul t hppr, hnum, hwidth, hden,
    expectedPasses_zero c⟩

end Sys2Proof.Proofs
end

section
/-! Proofs about the production figures: efficiency (R50, R51) and mass (R53). -/

namespace Sys2Proof.Proofs

open Sys2Proof.Machine Sys2Proof.Config

/-! ### The computed figures -/

theorem efficiency_of_possible_zero {a : Accum} (h : a.possible = 0) : a.efficiency = 0 :=
  if_pos h

theorem efficiency_eq_div {a : Accum} (h : 0 < a.possible) :
    a.efficiency = 1000 * a.running / a.possible :=
  if_neg (Nat.ne_of_gt h)

theorem efficiency_mul_le {a : Accum} (h : 0 < a.possible) :
    a.efficiency * a.possible ≤ 1000 * a.running :=
  efficiency_eq_div h ▸ Nat.div_mul_le_self _ _

theorem lt_efficiency_succ_mul {a : Accum} (h : 0 < a.possible) :
    1000 * a.running < (a.efficiency + 1) * a.possible :=
  efficiency_eq_div h ▸ (Nat.div_lt_iff_lt_mul h).mp (Nat.lt_succ_self _)

theorem efficiency_le_thousand {a : Accum} (h : a.running ≤ a.possible) :
    a.efficiency ≤ 1000 := by
  rcases Nat.eq_zero_or_pos a.possible with h0 | hpos
  · simp [efficiency_of_possible_zero h0]
  · rw [efficiency_eq_div hpos]
    exact Nat.div_le_of_le_mul (by rw [Nat.mul_comm]; exact Nat.mul_le_mul_right _ h)

theorem massOf_le_max32 (texX10 m : Nat) : massOf texX10 m ≤ max32 := Nat.min_le_right _ _

theorem massOf_eq_div {texX10 m : Nat} (h : m * texX10 / 10000 ≤ max32) :
    massOf texX10 m = m * texX10 / 10000 := Nat.min_eq_left h

/-- The product that R53 divides needs no more than 64 bits. -/
theorem mass_numerator_lt {m texX10 : Nat} (hm : m ≤ max32) (ht : texX10 ≤ 1000) :
    m * texX10 < 2 ^ 64 :=
  calc m * texX10
      ≤ max32 * 1000 := Nat.mul_le_mul hm ht
    _ < 2 ^ 64 := by decide

/-- Settles O26: the width, limit and value of the mass, then the two places that compute it. -/
theorem massIsOfTheGoodLength : Obligations.MassIsOfTheGoodLength := by
  refine ⟨fun m texX10 hm ht => ?_, fun _ _ => rfl, fun _ _ => rfl⟩
  exact ⟨mass_numerator_lt hm ht, massOf_le_max32 texX10 m, massOf_eq_div⟩

/-! ### The two tallies of R50 -/

/-- The tallies that efficiency is computed from: running, then possible. -/
def shares (a : Accum) : Nat × Nat := (a.running, a.possible)

/-- Running does not exceed possible. -/
def InOrder (p : Nat × Nat) : Prop := p.1 ≤ p.2

/-- A producing spindle is not in SENSOR_FAULT, so a read adds at most as much to running as to
possible. -/
theorem countP_producing_le (rs : List Spindle) :
    rs.countP (fun r => r.state.producing) ≤ rs.countP (fun r => r.state != .sensorFault) := by
  refine List.countP_mono_left fun r _ hr => ?_
  cases hst : r.state <;> simp_all [SpindleState.producing]

theorem satAdd_le_satAdd {a b x y : Nat} (limit : Nat) (hab : a ≤ b) (hxy : x ≤ y) :
    satAdd limit a x ≤ satAdd limit b y :=
  min_le_min_right limit (Nat.add_le_add hab hxy)

theorem tallyEfficiency_inOrder (sd : Side) (k : Nat) (s : State)
    (h : InOrder (shares s.pcn.acc)) : InOrder (shares (tallyEfficiency sd k s).pcn.acc) :=
  satAdd_le_satAdd max64 h (countP_producing_le _)

/-! ### What changes other accumulators and keeps the tallies -/

@[simp] theorem shares_ite (c : Prop) [Decidable c] (s t : State) :
    shares (if c then s else t).pcn.acc = if c then shares s.pcn.acc else shares t.pcn.acc := by
  split <;> rfl

@[simp] theorem countAcc_pcn (f : Accum → Accum) (s : State) :
    (countAcc f s).pcn = { s.pcn with acc := f s.pcn.acc } := rfl

@[simp] theorem addDelta_acc (good slack breaks pieced : Nat) (s : State) :
    (addDelta good slack breaks pieced s).pcn.acc = s.pcn.acc := rfl

@[simp] theorem reportBreak_shares (s : State) :
    shares (reportBreak s).pcn.acc = shares s.pcn.acc := rfl

@[simp] theorem reportCarriagePieced_shares (s : State) :
    shares (reportCarriagePieced s).pcn.acc = shares s.pcn.acc := rfl

@[simp] theorem reportTenterPieced_shares (s : State) :
    shares (reportTenterPieced s).pcn.acc = shares s.pcn.acc := rfl

@[simp] theorem reportFailure_shares (falseSuccess : Bool) (s : State) :
    shares (reportFailure falseSuccess s).pcn.acc = shares s.pcn.acc := rfl

@[simp] theorem reportBlocked_shares (s : State) :
    shares (reportBlocked s).pcn.acc = shares s.pcn.acc := rfl

@[simp] theorem reportRestartEndDown_shares (s : State) :
    shares (reportRestartEndDown s).pcn.acc = shares s.pcn.acc := rfl

@[simp] theorem creditSection_acc (sd : Side) (k f : Nat) (s : State) :
    (creditSection sd k f s).pcn.acc = s.pcn.acc := rfl

@[simp] theorem mapSection_pcn (s : State) (sd : Side) (k : Nat) (f : Spindle → Spindle) :
    (s.mapSection sd k f).pcn = s.pcn := by
  simp [State.mapSection]

@[simp] theorem creditObserved_shares (sd : Side) (k whole cycle : Nat) (s : State) :
    shares (creditObserved sd k whole cycle s).pcn.acc = shares s.pcn.acc := by
  simp [creditObserved, shares]

@[simp] theorem creditUnobserved_shares (whole : Nat) (s : State) :
    shares (creditUnobserved whole s).pcn.acc = shares s.pcn.acc := rfl

@[simp] theorem setShiftStart_shares (t : Nat) (s : State) :
    shares (setShiftStart t s).pcn.acc = shares s.pcn.acc := rfl

@[simp] theorem takeCop_shares (a : Accum) (limit cop : Nat) :
    shares (a.takeCop limit cop) = shares a := by
  unfold Accum.takeCop; split <;> rfl

theorem foldl_takeCop_shares (limit : Nat) (rs : List Spindle) (a : Accum) :
    shares (rs.foldl (fun a r => a.takeCop limit r.cop) a) = shares a := by
  induction rs generalizing a with
  | nil => rfl
  | cons r rs ih => rw [List.foldl_cons, ih, takeCop_shares]

@[simp] theorem doffStartProduction_shares (s : State) :
    shares (doffStartProduction s).pcn.acc = shares s.pcn.acc :=
  foldl_takeCop_shares (900 * s.conf.doffTargetM) _ s.pcn.acc

/-- A fold keeps the tallies when each of its steps does. -/
theorem foldl_shares {α : Type} {f : State → α → State}
    (hf : ∀ s a, shares (f s a).pcn.acc = shares s.pcn.acc) (l : List α) (s : State) :
    shares (l.foldl f s).pcn.acc = shares s.pcn.acc := by
  induction l generalizing s with
  | nil => rfl
  | cons a l ih => rw [List.foldl_cons, ih, hf]

/-! #### The Spindle Table -/

@[simp] theorem countedFailure_shares (sd : Side) (pos : Nat) (falseSuccess : Bool) (s : State) :
    shares (countedFailure sd pos falseSuccess s).pcn.acc = shares s.pcn.acc := by
  unfold countedFailure
  dsimp only
  split <;> simp

@[simp] theorem declareBreak_shares (sd : Side) (pos : Nat) (s : State) :
    shares (declareBreak sd pos s).pcn.acc = shares s.pcn.acc := by
  simp [declareBreak]

@[simp] theorem restore_shares (sd : Side) (pos : Nat) (r : Spindle) (s : State) :
    shares (restore sd pos r s).pcn.acc = shares s.pcn.acc := by
  unfold restore
  split
  · simp
  · split <;> simp
  · simp

@[simp] theorem verifyRead_shares (sd : Side) (pos : Nat) (r : Spindle) (s : State) :
    shares (verifyRead sd pos r s).pcn.acc = shares s.pcn.acc := by
  unfold verifyRead
  split
  · simp
  · split <;> simp

@[simp] theorem judgeEvidence_shares (sd : Side) (pos : Nat) (r : Spindle) (s : State) :
    shares (judgeEvidence sd pos r s).pcn.acc = shares s.pcn.acc := by
  unfold judgeEvidence
  cases r.state with
  | unknown | running | slack => simp
  | broken | blocked | rovingOut => split <;> simp
  | verifying => exact verifyRead_shares sd pos r s
  | servicing | doffWait | sensorFault => rfl

@[simp] theorem judgeSpindle_shares (sd : Side) (s : State) (pos : Nat) :
    shares (judgeSpindle sd s pos).pcn.acc = shares s.pcn.acc := by
  unfold judgeSpindle
  split
  · split
    · split <;> simp [leaveSensorFault]
    · split <;> simp
  · rfl

@[simp] theorem judgeSection_shares (sd : Side) (k : Nat) (s : State) :
    shares (judgeSection sd k s).pcn.acc = shares s.pcn.acc :=
  foldl_shares (judgeSpindle_shares sd) _ s

@[simp] theorem tableOutcome_shares (sd : Side) (pos : Nat) (k : Outcome) (s : State) :
    shares (tableOutcome sd pos k s).pcn.acc = shares s.pcn.acc := by
  unfold tableOutcome
  split
  · cases k <;> simp
  · rfl

@[simp] theorem judgeRestart_shares (sd : Side) (s : State) (pos : Nat) :
    shares (judgeRestart sd s pos).pcn.acc = shares s.pcn.acc := by
  unfold judgeRestart
  split
  · simp
  · rfl

@[simp] theorem restartJudgement_shares (complete : Bool) (s : State) :
    shares (restartJudgement complete s).pcn.acc = shares s.pcn.acc := by
  unfold restartJudgement
  split
  · exact (foldl_shares (judgeRestart_shares .R) _ _).trans
      (foldl_shares (judgeRestart_shares .L) _ s)
  · simp

/-! #### The Carriage Link Controllers -/

@[simp] theorem reportTo_shares (sd : Side) (pos : Nat) (k : Outcome) (s : State) :
    shares (reportTo sd pos k s).pcn.acc = shares s.pcn.acc := by
  simp [reportTo]

@[simp] theorem endJob_shares (sd : Side) (k : Outcome) (s : State) :
    shares (endJob sd k s).pcn.acc = shares s.pcn.acc := by
  unfold endJob
  split <;> simp

@[simp] theorem endRecord_shares (sd : Side) (k : Outcome) (s : State) :
    shares (endRecord sd k s).pcn.acc = shares s.pcn.acc := by
  unfold endRecord
  split <;> simp

@[simp] theorem takeReport_shares (sd : Side) (d : DoneReport) (s : State) :
    shares (takeReport sd d s).pcn.acc = shares s.pcn.acc := by
  simp [takeReport]

@[simp] theorem enterLost_shares (sd : Side) (s : State) :
    shares (enterLost sd s).pcn.acc = shares s.pcn.acc := by
  simp [enterLost]

@[simp] theorem faultAnswer_shares (sd : Side) (code : Byte) (s : State) :
    shares (faultAnswer sd code s).pcn.acc = shares s.pcn.acc := by
  unfold faultAnswer
  split <;> simp

@[simp] theorem silenceExpiry_shares (sd : Side) (s : State) :
    shares (silenceExpiry sd s).pcn.acc = shares s.pcn.acc := by
  unfold silenceExpiry
  dsimp only
  split
  · rfl
  · split <;> simp

@[simp] theorem statusDispatched_shares (sd : Side) (st : CarStatus) (s : State) :
    shares (statusDispatched sd st s).pcn.acc = shares s.pcn.acc := by
  unfold statusDispatched
  cases st with
  | idle => dsimp only; split <;> simp
  | _ => simp

@[simp] theorem actStatus_shares (sd : Side) (st : CarStatus) (s : State) :
    shares (actStatus sd st s).pcn.acc = shares s.pcn.acc := by
  unfold actStatus
  split
  · simp
  · split <;> simp

@[simp] theorem answerConnecting_shares (sd : Side) (took : Option OrderKind) (a : CarAnswer)
    (s : State) : shares (answerConnecting sd took a s).pcn.acc = shares s.pcn.acc := by
  unfold answerConnecting
  split
  · simp
  · cases a.status <;> split <;> simp

@[simp] theorem answerConnected_shares (sd : Side) (a : CarAnswer) (s : State) :
    shares (answerConnected sd a s).pcn.acc = shares s.pcn.acc := by
  unfold answerConnected
  split <;> simp

@[simp] theorem actAnswer_shares (sd : Side) (a : CarAnswer) (s : State) :
    shares (actAnswer sd a s).pcn.acc = shares s.pcn.acc := by
  unfold actAnswer
  dsimp only
  split
  · split <;> simp
  · split <;> simp
  · simp

@[simp] theorem carriageAnswer_shares (sd : Side) (bytes : List Byte) (s : State) :
    shares (carriageAnswer sd bytes s).pcn.acc = shares s.pcn.acc := by
  unfold carriageAnswer
  dsimp only
  split
  · rfl
  · split <;> simp

@[simp] theorem abandonJob_shares (sd : Side) (k : Outcome) (s : State) :
    shares (abandonJob sd k s).pcn.acc = shares s.pcn.acc := by
  unfold abandonJob
  split <;> simp

@[simp] theorem jobExpiry_shares (sd : Side) (s : State) :
    shares (jobExpiry sd s).pcn.acc = shares s.pcn.acc := by
  unfold jobExpiry
  split <;> simp

@[simp] theorem creelChangeAbort_shares (sd : Side) (k : Nat) (s : State) :
    shares (creelChangeAbort sd k s).pcn.acc = shares s.pcn.acc := by
  unfold creelChangeAbort
  dsimp only
  split
  · simp
  · split <;> simp

@[simp] theorem releaseCarriage_shares (sd : Side) (s : State) :
    shares (releaseCarriage sd s).pcn.acc = shares s.pcn.acc := by
  simp [releaseCarriage]

/-! #### The Doff Sequencer -/

@[simp] theorem enterDoffing_shares (s : State) :
    shares (enterDoffing s).pcn.acc = shares s.pcn.acc := by
  simp [enterDoffing]

@[simp] theorem doffWindowExpiry_shares (s : State) :
    shares (doffWindowExpiry s).pcn.acc = shares s.pcn.acc := by
  unfold doffWindowExpiry
  split
  · split <;> simp
  · rfl

@[simp] theorem endEvaluation_shares (complete : Bool) (s : State) :
    shares (endEvaluation complete s).pcn.acc = shares s.pcn.acc := by
  simp [endEvaluation]

@[simp] theorem passEnded_shares (sd : Side) (p : Pass) (s : State) :
    shares (passEnded sd p s).pcn.acc = shares s.pcn.acc := by
  unfold passEnded
  dsimp only
  split
  · split <;> simp
  · rfl

@[simp] theorem restartLimitExpiry_shares (s : State) :
    shares (restartLimitExpiry s).pcn.acc = shares s.pcn.acc := by
  unfold restartLimitExpiry
  split
  · split <;> simp
  · rfl

/-! #### The Creel Monitor -/

@[simp] theorem dock_shares (index : Nat) (s : State) :
    shares (dock index s).pcn.acc = shares s.pcn.acc := by
  simp [dock]

@[simp] theorem trainDocked_shares (train station index : Nat) (s : State) :
    shares (trainDocked train station index s).pcn.acc = shares s.pcn.acc := by
  unfold trainDocked
  split
  · split
    · split <;> simp
    · simp
  · rfl

@[simp] theorem renewGroup_shares (index : Nat) (s : State) :
    shares (renewGroup index s).pcn.acc = shares s.pcn.acc := by
  unfold renewGroup
  split
  · split <;> simp [shares]
  · rfl

@[simp] theorem creelDoneHeard_shares (station index : Nat) (s : State) :
    shares (creelDoneHeard station index s).pcn.acc = shares s.pcn.acc := by
  unfold creelDoneHeard
  split
  · split <;> simp
  · rfl

/-! #### The Sensor Scanner's ends of a completion -/

@[simp] theorem endPass_shares (sd : Side) (p : Pass) (s : State) :
    shares (endPass sd p s).pcn.acc = shares s.pcn.acc := by
  unfold endPass
  dsimp only
  split <;> simp

@[simp] theorem nextRead_shares (sd : Side) (k : Nat) (referenced : Bool) (s : State) :
    shares (nextRead sd k referenced s).pcn.acc = shares s.pcn.acc := by
  unfold nextRead
  dsimp only
  split
  · rfl
  · split <;> simp

/-! #### The Shift Tally Unit and the link, where nothing is closed -/

@[simp] theorem numberShift_shares (m : Nat) (s : State) :
    shares (numberShift m s).pcn.acc = shares s.pcn.acc := rfl

@[simp] theorem adopt_shares (m : Nat) (s : State) :
    shares (adopt m s).pcn.acc = shares s.pcn.acc := rfl

@[simp] theorem selfNumber_shares (s : State) :
    shares (selfNumber s).pcn.acc = shares s.pcn.acc := by
  unfold selfNumber
  split <;> simp

@[simp] theorem joinTimerExpiry_shares (s : State) :
    shares (joinTimerExpiry s).pcn.acc = shares s.pcn.acc := by
  unfold joinTimerExpiry
  split <;> simp

@[simp] theorem deliverContent_shares (f : Frame) (s : State) :
    shares (deliverContent f s).pcn.acc = shares s.pcn.acc := by
  unfold deliverContent
  split <;> simp

/-! ### What tallies, closes or clears: the tallies stay in order -/

theorem deliver_inOrder (sd : Side) (k f : Nat) (observed referenced : Bool) {s : State}
    (h : InOrder (shares s.pcn.acc)) :
    InOrder (shares (deliver sd k f observed referenced s).pcn.acc) := by
  cases referenced with
  | false => cases observed <;> simpa [deliver] using h
  | true =>
    simp only [deliver, creditProgress_keeps, drawDown_keeps, if_true]
    refine tallyEfficiency_inOrder sd k _ ?_
    cases observed <;> simpa using h

theorem missedRead_inOrder (sd : Side) (k : Nat) (garbled : Bool) {s : State}
    (h : InOrder (shares s.pcn.acc)) :
    InOrder (shares (missedRead sd k garbled s).pcn.acc) := by
  unfold missedRead
  cases s.section? sd k with
  | none => exact h
  | some x =>
    cases hd : sectionDeltas s x with
    | none => simpa [hd] using h
    | some d => simpa [hd] using deliver_inOrder sd k d.2 false false h

theorem answeredDelivery_inOrder (sd : Side) (k : Nat) (f : Option Nat)
    (catchUp referenced : Bool) {s : State} (h : InOrder (shares s.pcn.acc)) :
    InOrder (shares (answeredDelivery sd k f catchUp referenced s).pcn.acc) := by
  cases f with
  | none => exact h
  | some f => exact deliver_inOrder sd k f (!catchUp) referenced h

theorem measuringRead_inOrder (sd : Side) (k : Nat) (deltas : Option (Nat × Nat))
    (base : List W16) (catchUp : Bool) (a : NodeAnswer) {s : State}
    (h : InOrder (shares s.pcn.acc)) :
    InOrder (shares (measuringRead sd k deltas base catchUp a s).1.pcn.acc) := by
  simp only [measuringRead, takeSnapshots_keeps, apply_ite State.pcn, stayInRun_keeps,
    probeRead_keeps, adjustStep_keeps, ite_self]
  refine answeredDelivery_inOrder sd k _ catchUp _ ?_
  simpa using h

theorem baseTakingRead_inOrder (sd : Side) (k : Nat) (deltas : Option (Nat × Nat))
    (catchUp : Bool) (a : NodeAnswer) {s : State} (h : InOrder (shares s.pcn.acc)) :
    InOrder (shares (baseTakingRead sd k deltas catchUp a s).pcn.acc) := by
  simp only [baseTakingRead, takeSnapshots_keeps]
  exact answeredDelivery_inOrder sd k _ catchUp false (by simpa using h)

theorem answeredRead_inOrder (sd : Side) (k : Nat) (a : NodeAnswer) {s : State}
    (h : InOrder (shares s.pcn.acc)) : InOrder (shares (answeredRead sd k a s).1.pcn.acc) := by
  unfold answeredRead
  dsimp only
  split
  · exact h
  · split
    · exact baseTakingRead_inOrder sd k _ _ a (by split <;> simpa using h)
    · exact measuringRead_inOrder sd k _ _ _ a (by split <;> simpa using h)

theorem readAnswerTimeout_inOrder (sd : Side) {s : State} (h : InOrder (shares s.pcn.acc)) :
    InOrder (shares (readAnswerTimeout sd s).pcn.acc) := by
  unfold readAnswerTimeout
  dsimp only
  split
  · exact h
  · rw [nextRead_shares]
    exact missedRead_inOrder sd _ false h

theorem sectionReadAnswer_inOrder (sd : Side) (bytes : List Byte) {s : State}
    (h : InOrder (shares s.pcn.acc)) :
    InOrder (shares (sectionReadAnswer sd bytes s).pcn.acc) := by
  unfold sectionReadAnswer
  dsimp only
  split
  · exact h
  · split
    · split
      · rw [nextRead_shares]
        exact missedRead_inOrder sd _ true h
      · rw [nextRead_shares]
        exact answeredRead_inOrder sd _ _ h
    · exact h

theorem inOrder_zero : InOrder (0, 0) := Nat.le_refl 0

/-- A close clears both tallies (R54). -/
@[simp] theorem closeShift_shares (n : Nat) (s : State) :
    shares (closeShift n s).pcn.acc = (0, 0) := by
  simp [closeShift, setShiftStart, shares, Accum.closed, Accum.zero]

@[simp] theorem closeByTimer_shares (s : State) :
    shares (closeByTimer s).pcn.acc = (0, 0) := by
  simp [closeByTimer]

theorem shiftEndTest_inOrder {s : State} (h : InOrder (shares s.pcn.acc)) :
    InOrder (shares (shiftEndTest s).pcn.acc) := by
  unfold shiftEndTest
  split
  · split
    · simp [inOrder_zero]
    · exact h
  · exact h

theorem clockJumped_inOrder {s : State} (h : InOrder (shares s.pcn.acc)) :
    InOrder (shares (clockJumped s).pcn.acc) :=
  shiftEndTest_inOrder (by simpa using h)

theorem clockComesTo_inOrder (t : Nat) {s : State} (h : InOrder (shares s.pcn.acc)) :
    InOrder (shares (clockComesTo t s).pcn.acc) :=
  clockJumped_inOrder h

theorem wakeStampReached_inOrder (sd : Side) {s : State} (h : InOrder (shares s.pcn.acc)) :
    InOrder (shares (wakeStampReached sd s).pcn.acc) := by
  unfold wakeStampReached
  split
  · exact clockComesTo_inOrder _ h
  · exact h

theorem shiftEndReached_inOrder {s : State} (h : InOrder (shares s.pcn.acc)) :
    InOrder (shares (shiftEndReached s).pcn.acc) := by
  unfold shiftEndReached
  split
  · exact clockComesTo_inOrder _ h
  · exact h

theorem headerShift_inOrder (m : Nat) {s : State} (h : InOrder (shares s.pcn.acc)) :
    InOrder (shares (headerShift m s).pcn.acc) := by
  unfold headerShift
  dsimp only
  split
  · exact h
  · split
    · exact h
    · split
      · simp [inOrder_zero]
      · split
        · exact h
        · exact h

theorem adjustClock_inOrder (stamp : Nat) {s : State} (h : InOrder (shares s.pcn.acc)) :
    InOrder (shares (adjustClock stamp s).pcn.acc) := by
  unfold adjustClock
  split
  · exact clockComesTo_inOrder _ h
  · exact h

theorem acceptMessage_inOrder (f : Frame) {s : State} (h : InOrder (shares s.pcn.acc)) :
    InOrder (shares (acceptMessage f s).pcn.acc) := by
  simp only [acceptMessage, deliverContent_shares, apply_ite State.pcn, updatePeers_keeps, ite_self]
  exact headerShift_inOrder f.shift (adjustClock_inOrder f.stamp h)

theorem filterFrame_inOrder (bytes : List Byte) {s : State} (h : InOrder (shares s.pcn.acc)) :
    InOrder (shares (filterFrame bytes s).pcn.acc) := by
  unfold filterFrame
  split
  · exact h
  · split
    · simpa using h
    · split
      · exact acceptMessage_inOrder _ h
      · exact h

theorem floorFrameReceived_inOrder (bytes : List Byte) (stopBitsOk : Bool) {s : State}
    (h : InOrder (shares s.pcn.acc)) :
    InOrder (shares (floorFrameReceived bytes stopBitsOk s).pcn.acc) := by
  unfold floorFrameReceived
  split
  · exact h
  · split
    · exact filterFrame_inOrder bytes (by simpa using h)
    · simpa using h

/-! ### The idle millisecond -/

theorem sideExpiries_inOrder (sd : Side) {s : State} (h : InOrder (shares s.pcn.acc)) :
    InOrder (shares (sideExpiries sd s).pcn.acc) := by
  simp only [sideExpiries, shares_ite, modCar_keeps,
    silenceExpiry_shares, jobExpiry_shares, passTimerExpiry_keeps, ite_self]
  split
  · exact readAnswerTimeout_inOrder sd h
  · exact h

@[simp] theorem frameExpiries_shares (s : State) :
    shares (frameExpiries s).pcn.acc = shares s.pcn.acc := by
  simp [frameExpiries]

theorem tick_inOrder {s : State} (h : InOrder (shares s.pcn.acc)) :
    InOrder (shares (tick s).pcn.acc) := by
  have hclock : InOrder (shares (clockJumped (runTimers s)).pcn.acc) := clockJumped_inOrder h
  have hsides := sideExpiries_inOrder .R (sideExpiries_inOrder .L hclock)
  simpa [tick, expiries] using hsides

/-! ### The requests -/

/-- The tallies of CONFIGURE's fresh accumulators are 0. -/
@[simp] theorem configureBlocks_shares (c : Cfg) (s : State) :
    shares (configureBlocks c s).pcn.acc = (0, 0) := by
  simp [configureBlocks, shares, Accum.zero]

theorem ruleConfigure_inOrder (p : List Byte) {s : State} (h : InOrder (shares s.pcn.acc)) :
    InOrder (shares (ruleConfigure p s).state.pcn.acc) := by
  unfold ruleConfigure
  dsimp only
  split
  · exact h
  · split
    · split <;> simp [inOrder_zero]
    · exact h

@[simp] theorem ruleReadDelta_shares (p : List Byte) (s : State) :
    shares (ruleReadDelta p s).state.pcn.acc = shares s.pcn.acc := rfl

@[simp] theorem ruleCreelDone_shares (p : List Byte) (s : State) :
    shares (ruleCreelDone p s).state.pcn.acc = shares s.pcn.acc := by
  unfold ruleCreelDone
  dsimp only
  split <;> simp

/-- A request on a side byte keeps the tallies when its rule does. -/
theorem onSide_shares {rule : Side → State → Served}
    (hrule : ∀ sd s, shares (rule sd s).state.pcn.acc = shares s.pcn.acc) (p : List Byte)
    (s : State) : shares (onSide rule p s).state.pcn.acc = shares s.pcn.acc := by
  unfold onSide
  split
  · exact hrule _ s
  · rfl

@[simp] theorem ruleCarriageRelease_shares (p : List Byte) (s : State) :
    shares (ruleCarriageRelease p s).state.pcn.acc = shares s.pcn.acc := by
  refine onSide_shares (fun sd s => ?_) p s
  split <;> simp

@[simp] theorem onRecord_state (answer : ClosedRecord → Payload) (p : List Byte) (s : State) :
    (onRecord answer p s).state = s := by
  unfold onRecord
  dsimp only
  split
  · rfl
  · split <;> rfl

@[simp] theorem ruleReadCreel_state (p : List Byte) (s : State) :
    (ruleReadCreel p s).state = s := by
  unfold ruleReadCreel
  dsimp only
  split <;> rfl

@[simp] theorem ruleFind_state (p : List Byte) (s : State) : (ruleFind p s).state = s := by
  unfold ruleFind
  split <;> rfl

/-- A served request keeps the tallies in order when its rule does. -/
theorem serve_inOrder {code : Byte} {early : Bool} {len : Nat → Bool}
    {rule : List Byte → State → Served}
    (hrule : ∀ p s, InOrder (shares s.pcn.acc) → InOrder (shares (rule p s).state.pcn.acc))
    (body : List Byte) {s : State} (h : InOrder (shares s.pcn.acc)) :
    InOrder (shares (serve code early len rule body s).pcn.acc) := by
  unfold serve
  split
  · exact h
  · simp only [reply_keeps]
    unfold checked
    split
    · exact h
    · split
      · exact h
      · split
        · exact h
        · exact hrule _ _ h

/-- A served request keeps the tallies in order when its rule keeps the tallies. -/
theorem serve_inOrder_of_shares {code : Byte} {early : Bool} {len : Nat → Bool}
    {rule : List Byte → State → Served}
    (hrule : ∀ p s, shares (rule p s).state.pcn.acc = shares s.pcn.acc)
    (body : List Byte) {s : State} (h : InOrder (shares s.pcn.acc)) :
    InOrder (shares (serve code early len rule body s).pcn.acc) :=
  serve_inOrder (fun p s hs => (hrule p s).symm ▸ hs) body h

/-! ### Every step -/

/-- The next state of an outcome, if it has one, has its tallies in order. -/
def NextInOrder : Host.Outcome State Fault Refusal → Prop
  | .next t => InOrder (shares t.pcn.acc)
  | _ => True

theorem nextInOrder_of_shares {s t : State} (e : shares t.pcn.acc = shares s.pcn.acc)
    (h : InOrder (shares s.pcn.acc)) : NextInOrder (.next t) :=
  show InOrder (shares t.pcn.acc) from e ▸ h

theorem nextInOrder_ite {c : Prop} [Decidable c] {o o' : Host.Outcome State Fault Refusal}
    (h : NextInOrder o) (h' : NextInOrder o') : NextInOrder (if c then o else o') := by
  split
  · exact h
  · exact h'

/-- No command moves running past possible: each request by its rule, each event by its own lemma. -/
theorem exec_inOrder (i : Instr) {s : State} (h : InOrder (shares s.pcn.acc)) :
    NextInOrder (exec i s) := by
  cases i with
  | coldReset => exact inOrder_zero
  | configure body => exact serve_inOrder (fun p _ hs => ruleConfigure_inOrder p hs) body h
  | readShift body | readTally body =>
    exact serve_inOrder_of_shares (fun p s => congrArg (shares ·.pcn.acc) (onRecord_state _ p s))
      body h
  | readBreaks body | readCarriage body =>
    exact serve_inOrder_of_shares (onSide_shares fun _ _ => rfl) body h
  | readPeers body | readAttention body | readDelta body =>
    exact serve_inOrder_of_shares (fun _ _ => rfl) body h
  | readStatus body | copySpindles body | copyNext body | find body | clearOutcomes body
  | carriageConnect body | carriageRelease body | readCreel body | creelDone body
  | tenterClear body | forceDoff body | ackAttention body | setAttentionEnable body
  | probeStart body | readProbe body =>
    exact serve_inOrder_of_shares (fun _ _ => by simp) body h
  | tinPulseEdge | frPulseEdge | exchangeTimerExpiry _ | carriageAnswerTimeout _ => exact h
  | sectionReadAnswer sd bytes => exact sectionReadAnswer_inOrder sd bytes h
  | readAnswerTimeout sd => exact readAnswerTimeout_inOrder sd h
  | wakeStampReached sd => exact wakeStampReached_inOrder sd h
  | shiftEndReached => exact shiftEndReached_inOrder h
  | floorFrameReceived bytes stopBitsOk => exact floorFrameReceived_inOrder bytes stopBitsOk h
  | driveRunRise | driveRunFall | doffDoneRise =>
    exact nextInOrder_ite h (nextInOrder_ite (nextInOrder_of_shares (by simp) h) h)
  | ignoredWrite _ => exact nextInOrder_of_shares (by split <;> rfl) h
  | restart _ | restartComplete | unknownRequest _ | hostReadTransaction _ | badTransaction _
  | passTimerExpiry _ | idleTimerExpiry | carriageAnswer _ _ | silenceTimerExpiry _
  | jobTimerExpiry _ | silentTimerExpiry | joinTimerExpiry | beaconTimerExpiry
  | transmitAttemptStart | collision | cleanSend | peerTimerExpiry _ | staleTimerExpiry _ _
  | doffWindowExpiry | trainWindowExpiry | holdOffExpiry | trainWaitExpiry _ | creelMaxExpiry _
  | doffTimerExpiry | restartLimitExpiry | reportTimerExpiry _ | backoffCountdownStopped _ =>
    exact nextInOrder_of_shares (by simp) h

theorem step_inOrder {s : State} (h : InOrder (shares s.pcn.acc)) : NextInOrder (step s) := by
  unfold step
  split
  · exact tick_inOrder h
  · exact exec_inOrder _ h

/-- Settles O25: the two bounds of the floor, then that neither a read's tally nor any step moves
running past possible, and the two places that compute the figure. -/
theorem efficiencyIsAShareInPermille : Obligations.EfficiencyIsAShareInPermille := by
  refine ⟨fun a => efficiency_of_possible_zero,
    fun a hpos => ⟨efficiency_mul_le hpos, lt_efficiency_succ_mul hpos⟩, fun s sd k h => ?_,
    fun s t h hstep => ?_, fun _ _ => rfl, fun _ _ => rfl⟩
  · have hread := tallyEfficiency_inOrder sd k s h
    exact ⟨hread, efficiency_le_thousand hread⟩
  · have hnext : NextInOrder (.next t) := hstep ▸ step_inOrder h
    exact ⟨hnext, efficiency_le_thousand hnext⟩

end Sys2Proof.Proofs
end
